-- ==== Sys2Proof/Word.lean ====
section
/-! DEFINITION. The bit-vector types of the block: what the spec treats as bits (00_scope.md R7, R9, R10; 30_encoding.md R38). Bit 0 is the least significant bit of each. -/

namespace Sys2Proof

/-- The operand, `W = 128` bits; bit `i` is Bitboard bit index `i` (R7, R9). -/
abbrev Operand := BitVec 128

/-- One half of the operand, `HALF = 64` bits (R7, R10). -/
abbrev Half := BitVec 64

/-- The `op` field and input port, 2 bits (R18, R39). -/
abbrev OpCode := BitVec 2

/-- The request word `(op, operand)`, 130 bits, `op` in bits 129:128 (R38). -/
abbrev RequestWord := BitVec 130

end Sys2Proof
end

