-- ==== Sys2Proof/Config.lean ====
section
/-! DEFINITION. What a build of the block fixes (00_scope.md R7, 10_state.md R23 and R25, 40_capability.md R48 to R55, 70_reset_and_hazards.md R108), and the values the spec leaves open (free values: constants with no body). -/

namespace Sys2Proof

/-- The popcount strategies (00_scope.md R2). -/
inductive PopStrategy where
  | hardware
  | swar
  | table4
  | naive
  deriving DecidableEq, Repr

/-- The bit-scan strategies (00_scope.md R2; 90_conflicts.md C1 for the name SOFTWARE). -/
inductive ScanStrategy where
  | hardware
  | deBruijn
  | software
  deriving DecidableEq, Repr

/-- The values of the parameter `POPCNT_IMPL` (R7). No other value can be written, which is R108 item 5. -/
inductive PopImpl where
  | auto
  | hardware
  | swar
  | table4
  | naive
  deriving DecidableEq, Repr

/-- The values of the parameter `BITSCAN_IMPL` (R7). No other value can be written, which is R108 item 5. -/
inductive ScanImpl where
  | auto
  | hardware
  | deBruijn
  | software
  deriving DecidableEq, Repr

/-- What a build contains for one native primitive (R48, R49, R54). `exact` says that a primitive is present and
equals its reference function on every value a rule applies it to; `inexact` says that one is present and does not.
DESIGN CHOICE (safe, log entry 6): plain data, so that R108 item 3 and the absence R48 and R49 state are checks. -/
inductive Primitive where
  | absent
  | inexact
  | exact
  deriving DecidableEq, Repr

/-- The parameter record `P` (R7), less the fixed widths (they are the types of Word.lean), the derived constant
`DB_SHIFT = 58` (R8) and `T_SETTLE` (`Config.tSettle` below). No parameter changes while the block operates (R7, R51). -/
structure Params where
  /-- `HW_POPCNT_AVAIL` (R48). -/
  hwPopcntAvail : Bool
  /-- `HW_BITSCAN_AVAIL` (R49). -/
  hwBitscanAvail : Bool
  /-- `ARCH_TAG`, an opaque label no rule reads (R53; a String: DESIGN CHOICE, safe, log entry 14). -/
  archTag : String
  /-- `ADAPTIVE` (R7). -/
  adaptive : Bool
  /-- `POPCNT_IMPL` (R7). -/
  popcntImpl : PopImpl
  /-- `BITSCAN_IMPL` (R7). -/
  bitscanImpl : ScanImpl
  /-- `DENSITY_THRESHOLD`, a natural, in 1..129 in a well-formed build (R7, R108 item 4). -/
  densityThreshold : Nat
  /-- `DEBRUIJN_CONST` (R73). -/
  deBruijnConst : Half
  deriving DecidableEq, Repr

/-- A build of the block: its parameters, its two constant tables (10_state.md R25) and the native primitives it
contains. Constant for the life of the block (R7, R25, R29, R51). -/
structure Build where
  params : Params
  /-- `T4[0..15]`, 16 entries of 3 bits (R25, R62). -/
  t4 : Vector (BitVec 3) 16
  /-- `DB_TABLE[0..63]`, 64 entries of 6 bits (R25, R74). -/
  dbTable : Vector (BitVec 6) 64
  /-- The native population-count primitive `HWPOP64` (R48). -/
  popPrimitive : Primitive
  /-- The native count-trailing-zeros primitive `HWTZ64` (R49). -/
  tzPrimitive : Primitive
  /-- The native count-leading-zeros primitive `HWLZ64` (R49). -/
  lzPrimitive : Primitive
  deriving DecidableEq, Repr

/-- The build checks of 70_reset_and_hazards.md R108, one name each; a build that fails one is refused under it. -/
inductive BuildCheck where
  /-- Item 1: `T4[p] = pop64(p)` (R63). -/
  | t4Entries
  /-- Item 2, first half: `DEBRUIJN_CONST` gives 64 distinct indices (R73). -/
  | deBruijnConstant
  /-- Item 2, second half: `DB_TABLE` is the table the constant defines (R74, R75). -/
  | dbTableEntries
  /-- Item 3 for `HW_POPCNT_AVAIL`: set with an exact primitive (R54), or false with none (R48). -/
  | popPrimitive
  /-- Item 3 for `HW_BITSCAN_AVAIL`, trailing zeros: set with an exact primitive (R54), or false with none (R49). -/
  | tzPrimitive
  /-- Item 3 for `HW_BITSCAN_AVAIL`, leading zeros: set with an exact primitive (R54), or false with none (R49). -/
  | lzPrimitive
  /-- Item 4: `DENSITY_THRESHOLD` is in 1..129. -/
  | densityThreshold
  deriving DecidableEq, Repr

/-- Free value: `HWTZ64(0)`. The spec specifies no value there and no rule reaches it (R49; 93_implementation_defined.md
U3; log entry 7). -/
opaque Config.hwTz64AtZero : Nat

/-- Free value: `HWLZ64(0)`. The spec specifies no value there and no rule reaches it (R49; 93_implementation_defined.md
U3; log entry 7). -/
opaque Config.hwLz64AtZero : Nat

/-- Free value: `T_SETTLE`, the settle time of one evaluation of a build, in a unit the spec does not name. It is OPEN
and no rule depends on it (R7, R112; 93_implementation_defined.md U9; log entry 8). -/
opaque Config.tSettle : Build → Nat

end Sys2Proof
end

