-- ==== Sys2Proof/Machine/Bits.lean ====
section
/-! DEFINITION. The halves, the wrapping negation and the reference functions of 00_scope.md R10 to R12, and the zero-extension of R14. -/

namespace Sys2Proof.Machine

/-- `lo(a) = a[63:0]` (R10). -/
def lo (a : Operand) : Half := a.extractLsb' 0 64

/-- `hi(a) = a[127:64]` (R10). -/
def hi (a : Operand) : Half := a.extractLsb' 64 64

/-- `neg64(x) = (2^64 - x) mod 2^64` (R11). -/
def neg64 (x : Half) : Half := -x

/-- `zext_8(v)` of a natural below 256 (R14). -/
def zext8 (n : Nat) : BitVec 8 := BitVec.ofNat 8 n

/-- The sum of the low `n` bits of `x`. -/
def bitSum {w : Nat} (n : Nat) (x : BitVec w) : Nat := ((List.range n).map fun i => (x.getLsbD i).toNat).sum

/-- The least index below `n` of a set bit of `x`. -/
def leastSetBit {w : Nat} (n : Nat) (x : BitVec w) : Option Nat := (List.range n).find? fun i => x.getLsbD i

/-- The greatest index below `n` of a set bit of `x`. -/
def greatestSetBit {w : Nat} (n : Nat) (x : BitVec w) : Option Nat := (List.range n).reverse.find? fun i => x.getLsbD i

/-- `pop64(x)`, the number of set bits of a half (R12). -/
def pop64 (x : Half) : Nat := bitSum 64 x

/-- `tz64(x)`, the trailing zeros of a half, 64 for zero (R12). -/
def tz64 (x : Half) : Nat := (leastSetBit 64 x).getD 64

/-- `lz64(x)`, the leading zeros of a half, 64 for zero (R12). -/
def lz64 (x : Half) : Nat :=
  match greatestSetBit 64 x with
  | some i => 63 - i
  | none => 64

/-- `POP(a)`, the number of set bits of the operand (R12). -/
def popRef (a : Operand) : Nat := bitSum 128 a

/-- `Some(LSB(a))`, or `None` for the zero operand (R12, R70). -/
def lsbRef (a : Operand) : Option Nat := leastSetBit 128 a

/-- `Some(MSB(a))`, or `None` for the zero operand (R12, R70). -/
def msbRef (a : Operand) : Option Nat := greatestSetBit 128 a

end Sys2Proof.Machine
end

