-- ==== Sys2Proof/Machine/Tables.lean ====
section
/-! DEFINITION. The two constant tables of 10_state.md R25: `T4` (41_popcount.md R62) and `DB_TABLE` (42_bitscan.md R73 to R75), and their lookups. -/

namespace Sys2Proof.Machine

/-- The entries R62 writes out. -/
def t4Rule : Vector (BitVec 3) 16 := #v[0, 1, 1, 2, 1, 2, 2, 3, 1, 2, 2, 3, 2, 3, 3, 4]

/-- `T4[p]` as a natural. -/
def t4Lookup (t4 : Vector (BitVec 3) 16) (p : BitVec 4) : Nat := (t4[p.toNat]'p.isLt).toNat

/-- The index `(m *64 C) >> DB_SHIFT` of a half `m`, with `DB_SHIFT = 58` (R8, R75): the top 6 bits of the product. -/
def dbSlot (c m : Half) : BitVec 6 := ((m * c) >>> 58).setWidth 6

/-- `k_i`, the index of the single bit `2^i` (R73). -/
def dbBitSlot (c : Half) (i : Nat) : BitVec 6 := dbSlot c ((1 : Half) <<< i)

/-- The entries R74 writes out, row by row, for the default constant. -/
def dbTableRule : Vector (BitVec 6) 64 :=
  #v[ 0,  1, 48,  2, 57, 49, 28,  3,
     61, 58, 50, 42, 38, 29, 17,  4,
     62, 55, 59, 36, 53, 51, 43, 22,
     45, 39, 33, 30, 24, 18, 12,  5,
     63, 47, 56, 27, 60, 41, 37, 16,
     54, 35, 52, 21, 44, 32, 23, 11,
     46, 26, 40, 15, 34, 20, 31, 10,
     25, 14, 19,  9, 13,  8,  7,  6]

/-- The table a constant defines: entry `k` is the `i` with `k_i = k` (R74). Where no `i` has that index the constant
breaks R73 and its build is refused; the entry is then 0, of no effect (DESIGN CHOICE, safe, log entry 17). -/
def dbTableOf (c : Half) : Vector (BitVec 6) 64 :=
  Vector.ofFn fun k : Fin 64 =>
    BitVec.ofNat 6 (((List.range 64).find? fun i => dbBitSlot c i == BitVec.ofNat 6 k.val).getD 0)

/-- `DB_INDEX(m)` (R75). -/
def dbIndex (b : Build) (m : Half) : Nat :=
  (b.dbTable[(dbSlot b.params.deBruijnConst m).toNat]'(dbSlot b.params.deBruijnConst m).isLt).toNat

end Sys2Proof.Machine
end

