-- ==== Sys2Proof/Machine/BuildCheck.lean ====
section
/-! DEFINITION. The build checks of 70_reset_and_hazards.md R108, with what 40_capability.md R48 and R49 say a build contains. Item 5 (the value lists of `POPCNT_IMPL` and `BITSCAN_IMPL`) holds by the types `PopImpl` and `ScanImpl`. -/

namespace Sys2Proof.Machine

/-- The native primitive a build contains, as its capability flag says: an exact one when true, none when false (R48,
R49, R54; 93_implementation_defined.md U12). -/
def nativePrimitive (flag : Bool) : Primitive := if flag then .exact else .absent

/-- Whether a build meets one check of R108. -/
def checkHolds (b : Build) (c : BuildCheck) : Bool :=
  match c with
  | .t4Entries => (List.range 16).all fun p => t4Lookup b.t4 (BitVec.ofNat 4 p) == pop64 (BitVec.ofNat 64 p)
  | .deBruijnConstant => decide ((List.range 64).map fun i => (dbBitSlot b.params.deBruijnConst i).toNat).Nodup
  | .dbTableEntries => (List.range 64).all fun i => dbIndex b ((1 : Half) <<< i) == i
  | .popPrimitive => b.popPrimitive == nativePrimitive b.params.hwPopcntAvail
  | .tzPrimitive => b.tzPrimitive == nativePrimitive b.params.hwBitscanAvail
  | .lzPrimitive => b.lzPrimitive == nativePrimitive b.params.hwBitscanAvail
  | .densityThreshold => decide (1 ≤ b.params.densityThreshold) && decide (b.params.densityThreshold ≤ 129)

/-- The checks in R108's order. Which failing check names the refusal is a DESIGN CHOICE (safe, log entry 9): the first. -/
def allChecks : List BuildCheck :=
  [.t4Entries, .deBruijnConstant, .dbTableEntries, .popPrimitive, .tzPrimitive, .lzPrimitive, .densityThreshold]

/-- The first check a build fails, if any. -/
def firstFailedCheck (b : Build) : Option BuildCheck := allChecks.find? fun c => !checkHolds b c

end Sys2Proof.Machine
end

