-- ==== Sys2Proof/Machine/Operands.lean ====
section
/-! DEFINITION. The one request format `REQ130` (30_encoding.md R38) and its two fields. There is no other operand form: no immediate, register or addressing mode (R40). -/

namespace Sys2Proof.Machine

/-- The request word `(op, operand)`, `op` in the high bits (R38). -/
def requestWord (op : OpCode) (operand : Operand) : RequestWord := op ++ operand

/-- Bits 129:128 of a request word (R38). -/
def opField (w : RequestWord) : OpCode := w.extractLsb' 128 2

/-- Bits 127:0 of a request word, with no extension, scaling or shift (R38, R40). -/
def operandField (w : RequestWord) : Operand := w.extractLsb' 0 128

/-- `op` of POPCNT (R39). -/
def opPopcnt : OpCode := 0b00
/-- `op` of BSF (R39). -/
def opBsf : OpCode := 0b01
/-- `op` of BSR (R39). -/
def opBsr : OpCode := 0b10
/-- The reserved `op` (R39, R44). -/
def opReserved : OpCode := 0b11

end Sys2Proof.Machine
end

