-- ==== Sys2Proof/Syntax.lean ====
section
/-! DEFINITION. The instructions: one constructor per row of spec/opcode_table.json. An instruction is one evaluation with one value of `op` (10_state.md R22, 30_encoding.md R38); its one operand is the whole 128-bit `operand` field (R40). -/

namespace Sys2Proof

/-- The three defined operations (30_encoding.md R39). `op = 0b11` is reserved: it is not an instruction (R44). -/
inductive Instr where
  /-- POPCNT, population count, `op = 0b00` (R56). -/
  | popcnt (operand : Operand)
  /-- BSF, bit scan forward, `op = 0b01` (R68). -/
  | bsf (operand : Operand)
  /-- BSR, bit scan reverse, `op = 0b10` (R69). -/
  | bsr (operand : Operand)
  deriving DecidableEq, Repr

end Sys2Proof
end

