-- ==== Sys2Proof/WellFormed.lean ====
section
/-! DEFINITION. Well-formedness: of an instruction (30_encoding.md R40), of a request word (R38, R44) and of a build (70_reset_and_hazards.md R108). -/

namespace Sys2Proof

/-- Every one of the 2^128 values is a legal operand of every defined operation (R40), so every instruction is well formed. -/
def instrWellFormed (i : Instr) : Bool :=
  match i with
  | .popcnt _ => true
  | .bsf _ => true
  | .bsr _ => true

/-- A number is a request word when it fits in the 130 bits of the one format (R38, R45). -/
def isRequestWord (n : Nat) : Bool := decide (n < 2 ^ 130)

/-- A request word is an instruction exactly when its `op` is not the reserved one (R44). -/
def requestWellFormed (w : RequestWord) : Bool := Machine.opField w != Machine.opReserved

/-- A build is well formed when no check of R108 fails. -/
def buildWellFormed (b : Build) : Bool := (Machine.firstFailedCheck b).isNone

end Sys2Proof
end

