-- ==== Sys2Proof/Decode.lean ====
section
/-! DEFINITION. The decoder of request words, total, rejecting by name, and the encoder (30_encoding.md R38 to R45). -/

namespace Sys2Proof

/-- Why a number is no instruction. -/
inductive DecodeError where
  /-- `op = 0b11`, the only reserved encoding (R44). -/
  | reservedOp
  /-- A bit above bit 129 is set: the one format has 130 bits (R38, R45). -/
  | notARequestWord
  deriving DecidableEq, Repr

/-- The instruction a request word stands for, by its `op` field (R39). -/
def decode (w : RequestWord) : Except DecodeError Instr :=
  let a := Machine.operandField w
  if Machine.opField w = Machine.opPopcnt then .ok (.popcnt a)
  else if Machine.opField w = Machine.opBsf then .ok (.bsf a)
  else if Machine.opField w = Machine.opBsr then .ok (.bsr a)
  else .error .reservedOp

/-- The request word of an instruction (R38, R39). -/
def encode (i : Instr) : RequestWord :=
  match i with
  | .popcnt a => Machine.requestWord Machine.opPopcnt a
  | .bsf a => Machine.requestWord Machine.opBsf a
  | .bsr a => Machine.requestWord Machine.opBsr a

/-- The decoder on any number: one that does not fit in 130 bits is no request word. -/
def decodeNat (n : Nat) : Except DecodeError Instr :=
  if isRequestWord n then decode (BitVec.ofNat 130 n) else .error .notARequestWord

/-- The decoder on a word numbered as spec/opcode_table.json numbers its bits: the request word is one word, bit 0 its
least significant bit. A table width in whole bytes (136 bits) leaves padding above bit 129, which must be zero
(DESIGN CHOICE, safe, log entry 10). -/
def decodeTableWord (nbits w : Nat) : Option Instr :=
  match decodeNat (w % 2 ^ nbits) with
  | .ok i => some i
  | .error _ => none

end Sys2Proof
end

