-- ==== Sys2Proof/Machine/Defaults.lean ====
section
/-! DEFINITION. The default parameter record `P0` (00_scope.md R7; 95_test_vectors.md, opening) and the default build. -/

namespace Sys2Proof.Machine

/-- The defaults of R7, the record the test vectors call `P0`. -/
def defaultParams : Params where
  hwPopcntAvail := false
  hwBitscanAvail := false
  archTag := "unknown"
  adaptive := true
  popcntImpl := .auto
  bitscanImpl := .auto
  densityThreshold := 16
  deBruijnConst := 0x03F79D71B4CB0A89

/-- The default build: `P0`, the tables of R62 and R74, and no native primitive (R48 and R49 for a false flag; R50). -/
def defaultBuild : Build where
  params := defaultParams
  t4 := t4Rule
  dbTable := dbTableRule
  popPrimitive := .absent
  tzPrimitive := .absent
  lzPrimitive := .absent

/-- The build of a parameter record: the tables its parameters define (R62, R74) and the native primitives its flags say
(R48, R49, R54). -/
def buildOf (p : Params) : Build where
  params := p
  t4 := t4Rule
  dbTable := dbTableOf p.deBruijnConst
  popPrimitive := nativePrimitive p.hwPopcntAvail
  tzPrimitive := nativePrimitive p.hwBitscanAvail
  lzPrimitive := nativePrimitive p.hwBitscanAvail

end Sys2Proof.Machine
end

