-- ==== Sys2Proof/Machine/Bitscan.lean ====
section
/-! DEFINITION. The bit-scan strategies of 42_bitscan.md, each direction as the exact function the spec writes. -/

namespace Sys2Proof.Machine

/-- `HWTZ64`, the native primitive: exact on every non-zero half; at zero, which no rule reaches, a free value (R49, U3). -/
def hwTz64 (x : Half) : Nat := if x = 0 then Config.hwTz64AtZero else tz64 x

/-- `HWLZ64`, the native primitive: exact on every non-zero half; at zero, which no rule reaches, a free value (R49, U3). -/
def hwLz64 (x : Half) : Nat := if x = 0 then Config.hwLz64AtZero else lz64 x

/-- `BSF_HARDWARE` (R71). -/
def bsfHardware (a : Operand) : Option Nat :=
  if lo a ≠ 0 then some (hwTz64 (lo a))
  else if hi a ≠ 0 then some (64 + hwTz64 (hi a))
  else none

/-- `BSR_HARDWARE` (R72). -/
def bsrHardware (a : Operand) : Option Nat :=
  if hi a ≠ 0 then some (64 + (63 - hwLz64 (hi a)))
  else if lo a ≠ 0 then some (63 - hwLz64 (lo a))
  else none

/-- The lowest set bit of a non-zero half, alone: `x & neg64(x)` (R76). -/
def isolateLowest (x : Half) : Half := x &&& neg64 x

/-- The highest set bit of a non-zero half, alone: `1 << (63 - lz64(x))`, by the block's own `lz64`, not `HWLZ64` (R78). -/
def isolateHighest (x : Half) : Half := (1 : Half) <<< (63 - lz64 x)

/-- `BSF_DEBRUIJN` (R77). -/
def bsfDeBruijn (b : Build) (a : Operand) : Option Nat :=
  if lo a ≠ 0 then some (dbIndex b (isolateLowest (lo a)))
  else if hi a ≠ 0 then some (64 + dbIndex b (isolateLowest (hi a)))
  else none

/-- `BSR_DEBRUIJN` (R78; 90_conflicts.md C2: the upper half first, when it is non-zero). -/
def bsrDeBruijn (b : Build) (a : Operand) : Option Nat :=
  if hi a ≠ 0 then some (64 + dbIndex b (isolateHighest (hi a)))
  else if lo a ≠ 0 then some (dbIndex b (isolateHighest (lo a)))
  else none

/-- The loop of R79: scan upward from bit `i` for the given number of steps. -/
def scanUp (a : Operand) : Nat → Nat → Option Nat
  | 0, _ => none
  | n + 1, i => if a.getLsbD i then some i else scanUp a n (i + 1)

/-- The loop of R80: scan downward from the bit below `i`. -/
def scanDown (a : Operand) : Nat → Option Nat
  | 0 => none
  | i + 1 => if a.getLsbD i then some i else scanDown a i

/-- `BSF_SOFTWARE` (R79): at most 128 steps, from bit 0 upward. -/
def bsfSoftware (a : Operand) : Option Nat := scanUp a 128 0

/-- `BSR_SOFTWARE` (R80): at most 128 steps, from bit 127 downward. -/
def bsrSoftware (a : Operand) : Option Nat := scanDown a 128

/-- `BSF_s(a)`: the forward strategy function of a scan strategy (R43, R68). -/
def bsfBy (b : Build) (s : ScanStrategy) (a : Operand) : Option Nat :=
  match s with
  | .hardware => bsfHardware a
  | .deBruijn => bsfDeBruijn b a
  | .software => bsfSoftware a

/-- `BSR_s(a)`: the reverse strategy function of a scan strategy (R43, R69). -/
def bsrBy (b : Build) (s : ScanStrategy) (a : Operand) : Option Nat :=
  match s with
  | .hardware => bsrHardware a
  | .deBruijn => bsrDeBruijn b a
  | .software => bsrSoftware a

end Sys2Proof.Machine
end

