-- ==== Sys2Proof/Machine/Ports.lean ====
section
/-! DEFINITION. The ports of the block: two inputs (10_state.md R18) and four outputs (R19). Every input bit is 0 or 1 (R31). -/

namespace Sys2Proof.Machine

/-- The input ports (R18). -/
structure Inputs where
  /-- `op`, 2 bits: operation select. -/
  op : OpCode
  /-- `operand`, 128 bits: the Bitboard value. -/
  operand : Operand
  deriving DecidableEq, Repr

/-- The output ports (R19). -/
structure Outputs where
  /-- `result`, 8 bits. -/
  result : BitVec 8
  /-- `valid`, 1 bit. -/
  valid : Bool
  /-- `illegal`, 1 bit. -/
  illegal : Bool
  /-- `strategy`, 3 bits: the code of 30_encoding.md R42. -/
  strategy : BitVec 3
  deriving DecidableEq, Repr

end Sys2Proof.Machine
end

