-- ==== Sys2Proof/Machine/Flags.lean ====
section
/-! DEFINITION. The output encodings: the two flags (10_state.md R24), the `result` port of an Option (00_scope.md R13, 30_encoding.md R41) and the strategy codes (R42). -/

namespace Sys2Proof.Machine

/-- The `result` port of an Option: `Some(i)` is `zext_8(i)`, `None` is 0 (R13, R41). -/
def resultOfOption (r : Option Nat) : BitVec 8 :=
  match r with
  | some i => zext8 i
  | none => 0

/-- The `valid` flag of an Option: 1 for `Some`, 0 for `None` (R13, R24). -/
def validOfOption (r : Option Nat) : Bool := r.isSome

/-- `code(s)` of a popcount strategy (R42). -/
def popCode (s : PopStrategy) : BitVec 3 :=
  match s with
  | .hardware => 0b000
  | .swar => 0b001
  | .table4 => 0b010
  | .naive => 0b011

/-- `code(s)` of a bit-scan strategy (R42). -/
def scanCode (s : ScanStrategy) : BitVec 3 :=
  match s with
  | .hardware => 0b000
  | .deBruijn => 0b100
  | .software => 0b101

/-- The code NONE, driven for the reserved `op` only (R42). -/
def codeNone : BitVec 3 := 0b111

/-- The outputs of an evaluation whose count is always a value (R43, first branch). -/
def countOutputs (c : Nat) (code : BitVec 3) : Outputs :=
  { result := zext8 c, valid := true, illegal := false, strategy := code }

/-- The outputs of an evaluation whose value is an Option (R43, second branch). -/
def optionOutputs (r : Option Nat) (code : BitVec 3) : Outputs :=
  { result := resultOfOption r, valid := validOfOption r, illegal := false, strategy := code }

/-- The outputs for the reserved `op` (R43, last branch; R92). -/
def reservedOutputs : Outputs := { result := 0x00, valid := false, illegal := true, strategy := codeNone }

end Sys2Proof.Machine
end

