-- ==== Sys2Proof/Machine/Popcount.lean ====
section
/-! DEFINITION. The popcount strategies of 41_popcount.md, each as the exact function the spec writes. A loop is a function of its argument (00_scope.md R15): structural recursion on the bound the spec states beside it (DEDUCED, safe, log entry 13). The SWAR masks are the spec's, which marks them as general knowledge (UNVERIFIED, safe, log entry 15). -/

namespace Sys2Proof.Machine

/-- `HWPOP64`, the native primitive, exact in every build that may use it (R48, R54). -/
def hwPop64 (x : Half) : Nat := pop64 x

/-- `POP_HARDWARE` (R59). -/
def popHardware (a : Operand) : Nat := hwPop64 (lo a) + hwPop64 (hi a)

/-- `x1` of R60: each 2-bit field counts its two bits. -/
def swarPairs (x : Half) : Half := x - ((x >>> 1) &&& 0x5555555555555555)

/-- `x2` of R60, from `x1`: each 4-bit field counts its four bits. -/
def swarNibbles (x1 : Half) : Half := (x1 &&& 0x3333333333333333) + ((x1 >>> 2) &&& 0x3333333333333333)

/-- `x3` of R60, from `x2`: each byte counts its eight bits. -/
def swarBytes (x2 : Half) : Half := (x2 + (x2 >>> 4)) &&& 0x0F0F0F0F0F0F0F0F

/-- The last line of R60, from `x3`: the byte sum lands in bits 63:56 of the product. -/
def swarByteSum (x3 : Half) : Half := (x3 * 0x0101010101010101) >>> 56

/-- `SWAR64` (R60). -/
def swar64 (x : Half) : Nat := (swarByteSum (swarBytes (swarNibbles (swarPairs x)))).toNat

/-- `POP_SWAR` (R60). -/
def popSwar (a : Operand) : Nat := swar64 (lo a) + swar64 (hi a)

/-- The loop of `POP_TABLE4` (R64) on the value `v` and the count `c`, for at most the given number of iterations. -/
def table4Loop (t4 : Vector (BitVec 3) 16) : Nat → Operand → Nat → Nat
  | 0, _, c => c
  | n + 1, v, c => if v = 0 then c else table4Loop t4 n (v >>> 4) (c + t4Lookup t4 (v.extractLsb' 0 4))

/-- `POP_TABLE4` (R64): at most 32 iterations. -/
def popTable4 (t4 : Vector (BitVec 3) 16) (a : Operand) : Nat := table4Loop t4 32 a 0

/-- How many iterations the loop of R64 runs, counting no more than the given number (R112). -/
def table4Iterations : Nat → Operand → Nat
  | 0, _ => 0
  | n + 1, v => if v = 0 then 0 else table4Iterations n (v >>> 4) + 1

/-- The loop of `POP_NAIVE` (R65) on the value `v` and the count `c`, for at most the given number of iterations. -/
def naiveLoop : Nat → Operand → Nat → Nat
  | 0, _, c => c
  | n + 1, v, c => if v = 0 then c else naiveLoop n (v &&& (v - 1)) (c + 1)

/-- `POP_NAIVE` (R65): at most 128 iterations. -/
def popNaive (a : Operand) : Nat := naiveLoop 128 a 0

/-- How many iterations the loop of R65 runs, counting no more than the given number (R112). -/
def naiveIterations : Nat → Operand → Nat
  | 0, _ => 0
  | n + 1, v => if v = 0 then 0 else naiveIterations n (v &&& (v - 1)) + 1

/-- `POP_s(a)`: the strategy function of a popcount strategy (R43, R56). -/
def popBy (b : Build) (s : PopStrategy) (a : Operand) : Nat :=
  match s with
  | .hardware => popHardware a
  | .swar => popSwar a
  | .table4 => popTable4 b.t4 a
  | .naive => popNaive a

end Sys2Proof.Machine
end

