-- ==== Sys2Proof/Machine/Selection.lean ====
section
/-! DEFINITION. The strategy choice of 43_selection.md: a function of the parameters and, for popcount, of the operand (R83). -/

namespace Sys2Proof.Machine

/-- `DENSITY(a)`: each half counted on its own, the two counts added (R84). -/
def density (a : Operand) : Nat := pop64 (lo a) + pop64 (hi a)

/-- `POP_STRATEGY_P(a)` (R85). -/
def popStrategy (p : Params) (a : Operand) : PopStrategy :=
  match p.popcntImpl with
  | .hardware => if p.hwPopcntAvail then .hardware else .swar
  | .swar => .swar
  | .table4 => .table4
  | .naive => .naive
  | .auto =>
    if !p.adaptive then .table4
    else if p.hwPopcntAvail then .hardware
    else if density a < p.densityThreshold then .table4
    else .swar

/-- `SCAN_STRATEGY_P`, the same for BSF and BSR and for every operand (R86). -/
def scanStrategy (p : Params) : ScanStrategy :=
  match p.bitscanImpl with
  | .hardware => if p.hwBitscanAvail then .hardware else .deBruijn
  | .deBruijn => .deBruijn
  | .software => .software
  | .auto =>
    if !p.adaptive then .deBruijn
    else if p.hwBitscanAvail then .hardware
    else .deBruijn

/-- `PREFERRED_POP`, an introspection value no port exposes and no rule reads (40_capability.md R55). -/
def preferredPop (p : Params) : PopStrategy := if p.hwPopcntAvail then .hardware else .swar

/-- `PREFERRED_SCAN`, an introspection value no port exposes and no rule reads (40_capability.md R55). -/
def preferredScan (p : Params) : ScanStrategy := if p.hwBitscanAvail then .hardware else .deBruijn

end Sys2Proof.Machine
end

