-- ==== Sys2Proof/Machine/Evaluate.lean ====
section
/-! DEFINITION. What the block drives: the outputs of each operation (41_popcount.md R56, 42_bitscan.md R68 and R69) and `F_P`, the whole function of the block (30_encoding.md R43). -/

namespace Sys2Proof.Machine

/-- The outputs of POPCNT (R56). -/
def popcntOutputs (b : Build) (a : Operand) : Outputs :=
  let s := popStrategy b.params a
  countOutputs (popBy b s a) (popCode s)

/-- The outputs of BSF (R68). -/
def bsfOutputs (b : Build) (a : Operand) : Outputs :=
  let s := scanStrategy b.params
  optionOutputs (bsfBy b s a) (scanCode s)

/-- The outputs of BSR (R69). -/
def bsrOutputs (b : Build) (a : Operand) : Outputs :=
  let s := scanStrategy b.params
  optionOutputs (bsrBy b s a) (scanCode s)

/-- `F_P(op, a)`, total on all 4 * 2^128 request words (R43). -/
def evalFunction (b : Build) (i : Inputs) : Outputs :=
  if i.op = opPopcnt then popcntOutputs b i.operand
  else if i.op = opBsf then bsfOutputs b i.operand
  else if i.op = opBsr then bsrOutputs b i.operand
  else reservedOutputs

end Sys2Proof.Machine
end

