-- ==== Sys2Proof/Machine/State.lean ====
section
/-! DEFINITION. The state of the model. The block has no storage element (10_state.md R16): what the spec gives is its input ports, its output ports, and what its build fixes. -/

namespace Sys2Proof.Machine

/-- The model's state: the values on the ports and the build. None of it is storage of the block: the inputs are what
the host drives (R30), the outputs are what the block drove in the evaluation just done (R17, R24), and the build is
constant (R7, R25, R51). An evaluation reads `inp` and `build` only. Log entries 1, 2 and 3. -/
structure State where
  /-- The input ports `op` and `operand` (R18), as the host holds them. -/
  inp : Inputs
  /-- The output ports `result`, `valid`, `illegal` and `strategy` (R19), as the host samples them. -/
  out : Outputs
  /-- The parameter record, the two constant tables and the native primitives (R7, R25, R48, R49). -/
  build : Build
  deriving DecidableEq, Repr

/-- Why an evaluation is a fault. -/
inductive Fault where
  /-- Raised by `step` when `op` is the reserved `0b11`: "A model treats such an evaluation as a fault of the host's
  program" (60_exceptions.md R92, U1). It carries the outputs the block drives, which R92 fixes; the block goes on, and
  the host may sample them and evaluate again (`observe`). Safe: it is the spec's own treatment (DEDUCED, log entry 4). -/
  | reservedOp (driven : Outputs)
  deriving DecidableEq, Repr

/-- Why the model gives an evaluation no meaning. -/
inductive Refusal where
  /-- Raised by an arm of `exec` whose instruction has no meaning yet; no arm does. Safe: nothing is claimed. -/
  | notModelled (mnemonic : String)
  /-- Raised by every evaluation of a build that fails a check of R108, naming the check: "a model checks them on the
  parameter record and refuses a record that fails". Safe: it is the spec's own treatment. -/
  | illFormedBuild (check : BuildCheck)
  deriving DecidableEq, Repr

/-- The inputs at reset: both ports zero. The host drives them and the spec gives no value (DESIGN CHOICE, unsafe, log entry 1). -/
def resetInputs : Inputs := { op := 0, operand := 0 }

/-- Right after reset: the default build (R7, R29), and outputs equal to `F_P` of the inputs, as at every instant
(R29, R106). There is no register to reset (R21 to R23, R106). -/
def State.reset : State :=
  { inp := resetInputs, out := evalFunction defaultBuild resetInputs, build := defaultBuild }

end Sys2Proof.Machine
end

