-- ==== Sys2Proof/Machine/Ops.lean ====
section
/-! DEFINITION. The operations over State. The block has no memory and no registers (10_state.md R21, R26), and takes no exception (60_exceptions.md R91, R97): what there is, is driving the ports. -/

namespace Sys2Proof.Machine

/-- The host drives the input ports (R30). Nothing else changes. -/
def drive (i : Inputs) (s : State) : State := { s with inp := i }

/-- The block drives its output ports. Nothing else changes: the host holds the inputs (R111), and no port writes a
parameter or a table (R7, R25). -/
def driveOutputs (o : Outputs) (s : State) : State := { s with out := o }

/-- The request word on the input ports (R38). -/
def fetch (s : State) : RequestWord := requestWord s.inp.op s.inp.operand

/-- The input ports a request word stands for (R38). -/
def inputsOfWord (w : RequestWord) : Inputs := { op := opField w, operand := operandField w }

/-- One evaluation: drive all four outputs at once (R17), as the given function of the build gives them. A build that
fails a check of R108 is refused. -/
def evaluate (f : Build → Outputs) (s : State) : Host.Outcome State Fault Refusal :=
  match firstFailedCheck s.build with
  | some c => .refused (.illFormedBuild c)
  | none => .next (driveOutputs (f s.build) s)

/-- An evaluation with the reserved `op`: a fault of the host's program that carries the outputs driven (R92). A build
that fails a check of R108 is refused before. -/
def signalReserved (s : State) : Host.Outcome State Fault Refusal :=
  match firstFailedCheck s.build with
  | some c => .refused (.illFormedBuild c)
  | none => .fault (.reservedOp reservedOutputs)

end Sys2Proof.Machine
end

