-- ==== Sys2Proof/Machine/BitscanFamily.lean ====
section
/-! DEFINITION. The meanings of BSF and BSR (42_bitscan.md R68, R69). -/

namespace Sys2Proof.Machine

/-- BSF (R68): total on all 2^128 operands; the zero operand gives `valid = 0` and is no error. -/
def execBsf (a : Operand) (s : State) : Host.Outcome State Fault Refusal := evaluate (fun b => bsfOutputs b a) s

/-- BSR (R69): total on all 2^128 operands; the zero operand gives `valid = 0` and is no error. -/
def execBsr (a : Operand) (s : State) : Host.Outcome State Fault Refusal := evaluate (fun b => bsrOutputs b a) s

end Sys2Proof.Machine
end

