-- ==== Sys2Proof/Machine/PopcountFamily.lean ====
section
/-! DEFINITION. The meaning of POPCNT (41_popcount.md R56). -/

namespace Sys2Proof.Machine

/-- POPCNT (R56): total on all 2^128 operands; no exception. -/
def execPopcnt (a : Operand) (s : State) : Host.Outcome State Fault Refusal := evaluate (fun b => popcntOutputs b a) s

end Sys2Proof.Machine
end

