-- ==== Sys2Proof/Machine/Dispatch.lean ====
section
/-! DEFINITION. One arm per instruction. -/

namespace Sys2Proof.Machine

def exec (i : Instr) (s : State) : Host.Outcome State Fault Refusal :=
  match i with
  | .popcnt a => Sys2Proof.Machine.execPopcnt a s
  | .bsf a => Sys2Proof.Machine.execBsf a s
  | .bsr a => Sys2Proof.Machine.execBsr a s

end Sys2Proof.Machine
end

