-- ==== Sys2Proof/Machine/Step.lean ====
section
/-! DEFINITION. One step: one evaluation of the inputs the host drives (10_state.md R17). -/

namespace Sys2Proof.Machine

/-- One evaluation, atomic (R17, R111): the request word on the input ports is decoded and its operation evaluated; the
reserved `op` is signalled. -/
def step (s : State) : Host.Outcome State Fault Refusal :=
  match Sys2Proof.decode (fetch s) with
  | .ok i => exec i s
  | .error _ => signalReserved s

/-- The state with a request word, numbered as spec/opcode_table.json numbers its bits, driven on the input ports. -/
def State.withFetchWord (s : State) (nbits w : Nat) : State :=
  drive (inputsOfWord (BitVec.ofNat 130 (w % 2 ^ nbits))) s

end Sys2Proof.Machine
end

