-- ==== Sys2Proof/Machine/HostInterface.lean ====
section
/-! DEFINITION. The host's side of the ports (10_state.md R30): evaluations in any order, and the counting of strategy codes that rebuilds the source's telemetry (43_selection.md R90). -/

namespace Sys2Proof.Machine

/-- The outputs the host samples after a step: those of the next state, or those a reserved request drives (R92). A
refused build has none. -/
def sampled (r : Host.Outcome State Fault Refusal) : Option Outputs :=
  match r with
  | .next t => some t.out
  | .fault (.reservedOp o) => some o
  | .refused _ => none

/-- One evaluation as the host sees it: drive the inputs, step, sample the outputs. After a reserved request the block
goes on, with nothing changed but the outputs it drives (R92). -/
def observe (i : Inputs) (s : State) : Option (Outputs × State) :=
  (sampled (step (drive i s))).map fun o => (o, driveOutputs o (drive i s))

/-- A host's sequence of evaluations (R30), in order, with the outputs sampled after each. -/
def observeAll : List Inputs → State → Option (List Outputs × State)
  | [], s => some ([], s)
  | i :: is, s =>
    match observe i s with
    | none => none
    | some (o, t) => (observeAll is t).map fun r => (o :: r.1, r.2)

/-- The host's counter for an operation and a strategy code, over the evaluations of a sequence (R90). -/
def strategyCounter (op : OpCode) (code : BitVec 3) (trace : List (Inputs × Outputs)) : Nat :=
  trace.countP fun e => e.1.op == op && e.2.strategy == code

end Sys2Proof.Machine
end

