-- ==== Sys2Proof/Safety.lean ====
section
/-! DEFINITION. The terms claims are stated in: what a safe sequence of evaluations is, and what the three operations ask for, said without any strategy. -/

namespace Sys2Proof.Safety

open Sys2Proof.Machine

/-- No evaluation had `illegal = 1`: the premise R92 asks of a claim about a sequence. -/
def noIllegal (os : List Outputs) : Bool := os.all fun o => !o.illegal

/-- A request of a defined operation (R44). -/
def legalRequest (i : Inputs) : Bool := i.op != opReserved

/-- The population count of a value of any width: how many of its bits are set. -/
def bitCount {w : Nat} (a : BitVec w) : Nat := (Finset.univ.filter fun i : Fin w => a.getLsbD i.val = true).card

/-- The `k`-th field of `w` bits of a half, counting from bit 0 (41_popcount.md R61). -/
def fieldAt (w k : Nat) (x : Half) : Nat := (x.extractLsb' (w * k) w).toNat

/-- The constants R73 allows: the 64 indices `k_i` are pairwise distinct. -/
def DistinctIndices (c : Half) : Prop := ∀ i j, i < 64 → j < 64 → dbBitSlot c i = dbBitSlot c j → i = j

/-- `i` is the index of the lowest set bit of `a`. -/
def IsLowestSetBit {w : Nat} (a : BitVec w) (i : Nat) : Prop := a.getLsbD i = true ∧ ∀ j, j < i → a.getLsbD j = false

/-- `i` is the index of the highest set bit of `a`. -/
def IsHighestSetBit {w : Nat} (a : BitVec w) (i : Nat) : Prop := a.getLsbD i = true ∧ ∀ j, i < j → a.getLsbD j = false

/-- The outputs on the ports are `F_P` of the inputs (R16, R106). -/
def Coherent (s : State) : Prop := s.out = evalFunction s.build s.inp

/-- The output patterns 30_encoding.md R41 and R42 allow: `illegal` is 1 exactly for the reserved `op`, the result is in
the range of the operation, and the strategy code is one of its family (the code 0b110 is never driven). -/
def OutputsInRange (op : OpCode) (o : Outputs) : Prop :=
  (o.illegal = true ↔ op = opReserved) ∧
  (op = opPopcnt → o.valid = true ∧ o.result.toNat ≤ 128 ∧ o.strategy.toNat ≤ 3) ∧
  (op = opBsf ∨ op = opBsr → o.result.toNat ≤ 127 ∧ (o.valid = false → o.result = 0) ∧
    (o.strategy = 0b000 ∨ o.strategy = 0b100 ∨ o.strategy = 0b101)) ∧
  (op = opReserved → o.valid = false ∧ o.result = 0 ∧ o.strategy = 0b111)

/-- What every evaluation of the block keeps: the build is well formed, the outputs are `F_P` of the inputs, and they are
in the range of the operation. -/
def Inv (s : State) : Prop :=
  buildWellFormed s.build = true ∧ Coherent s ∧ OutputsInRange s.inp.op s.out

end Sys2Proof.Safety
end

