-- ==== Sys2Proof/Certificates/Slice0/Obligations.lean ====
section
/-! DEFINITION. The statements for the provers. Each docstring names the rule of spec/ it comes from. -/

open Sys2Proof Sys2Proof.Machine Sys2Proof.Safety

/-! ### Encoding -/

/-- R38, R39, R40, R44: decode and encode are inverse to each other between all instructions (each is well formed, R40)
and all request words whose `op` is not reserved; the opcode table's numbering of the bits gives the same instruction. -/
def Obligations.DecodeEncodeRoundTrip : Prop :=
  (∀ i : Instr, instrWellFormed i = true ∧ decode (encode i) = .ok i ∧ requestWellFormed (encode i) = true ∧
    ∀ nbits, 130 ≤ nbits → decodeTableWord nbits (encode i).toNat = some i) ∧
  (∀ (w : RequestWord) (i : Instr), decode w = .ok i → encode i = w) ∧
  (∀ w : RequestWord, decode w = .error .reservedOp ↔ opField w = 0b11#2)

/-- R38, R39: words written out from the encoding (95_test_vectors.md FV2, FV5, FV8, FV12) decode to what they stand for. -/
def Obligations.WrittenWordsDecode : Prop :=
  decode 0x0FFFFFFFFFFFFFFFFFFFFFFFFFFFFFFFF#130 = .ok (.popcnt (BitVec.allOnes 128)) ∧
  decode 0x10000000000000000000000000000000A#130 = .ok (.bsf 0b1010) ∧
  decode 0x20000000000000000000000000000000A#130 = .ok (.bsr 0b1010) ∧
  decode 0x30000000000000000000000000000000A#130 = .error .reservedOp

/-- R38: the request word is the 130-bit concatenation of `op` (bits 129:128) and `operand` (bits 127:0). -/
def Obligations.RequestWordIsConcatenation : Prop :=
  ∀ (op : OpCode) (a : Operand),
    (requestWord op a).toNat = op.toNat * 2 ^ 128 + a.toNat ∧
    opField (requestWord op a) = op ∧ operandField (requestWord op a) = a

/-- R17, R43: a step runs the instruction the inputs decode to, and a request word stored for the fetch is the one run. -/
def Obligations.StepRunsDecodedInstruction : Prop :=
  (∀ (s : State) (i : Instr), decode (fetch s) = .ok i → step s = exec i s) ∧
  (∀ (s : State) (i : Instr) (nbits : Nat), 130 ≤ nbits →
    step (s.withFetchWord nbits (encode i).toNat) = exec i (s.withFetchWord nbits (encode i).toNat)) ∧
  (∀ (s : State) (nbits w : Nat), (s.withFetchWord nbits w).out = s.out ∧ (s.withFetchWord nbits w).build = s.build)

/-! ### The three operations: result, flags, strategy, and completion -/

/-- R56: POPCNT completes on every operand; it drives the number of set bits, `valid`, no `illegal`, and the code of the
strategy R85 chooses; nothing else changes. -/
def Obligations.PopcntDrivesSetBitCount : Prop :=
  ∀ (s : State) (a : Operand), buildWellFormed s.build = true →
    decode (requestWord 0b00 a) = .ok (.popcnt a) ∧
    exec (.popcnt a) s = .next { s with out := {
      result := BitVec.ofNat 8 (bitCount a)
      valid := true
      illegal := false
      strategy := popCode (popStrategy s.build.params a) } }

/-- R68: BSF completes on every operand; it drives the index of the lowest set bit with `valid`, or `valid = 0` and
result 0 for the zero operand, no `illegal`, and the code of the strategy R86 chooses; nothing else changes. -/
def Obligations.BsfDrivesLowestSetBit : Prop :=
  ∀ (s : State) (a : Operand), buildWellFormed s.build = true →
    decode (requestWord 0b01 a) = .ok (.bsf a) ∧
    ∃ o : Outputs, exec (.bsf a) s = .next { s with out := o } ∧
      o.valid = decide (a ≠ 0) ∧ o.illegal = false ∧ o.strategy = scanCode (scanStrategy s.build.params) ∧
      (a = 0 → o.result = 0x00) ∧
      (a ≠ 0 → ∃ i, i ≤ 127 ∧ IsLowestSetBit a i ∧ o.result = BitVec.ofNat 8 i)

/-- R69: BSR completes on every operand; it drives the index of the highest set bit with `valid`, or `valid = 0` and
result 0 for the zero operand, no `illegal`, and the code of the strategy R86 chooses; nothing else changes. -/
def Obligations.BsrDrivesHighestSetBit : Prop :=
  ∀ (s : State) (a : Operand), buildWellFormed s.build = true →
    decode (requestWord 0b10 a) = .ok (.bsr a) ∧
    ∃ o : Outputs, exec (.bsr a) s = .next { s with out := o } ∧
      o.valid = decide (a ≠ 0) ∧ o.illegal = false ∧ o.strategy = scanCode (scanStrategy s.build.params) ∧
      (a = 0 → o.result = 0x00) ∧
      (a ≠ 0 → ∃ i, i ≤ 127 ∧ IsHighestSetBit a i ∧ o.result = BitVec.ofNat 8 i)

/-- R7, R25, R111: POPCNT, BSF and BSR leave the input ports, the parameters, the tables and the primitives as they
were: only the four outputs may change, in `exec` and in `step`. -/
def Obligations.EvaluationChangesOnlyOutputs : Prop :=
  (∀ (i : Instr) (s t : State), exec i s = .next t → t = { s with out := t.out }) ∧
  (∀ s t : State, step s = .next t → t = { s with out := t.out })

/-- R41: the `result` and `valid` ports of every operation, for a zero and a non-zero operand, and for the reserved `op`. -/
def Obligations.ResultPortPerOperation : Prop :=
  ∀ s : State, buildWellFormed s.build = true →
    ∃ o : Outputs, sampled (step s) = some o ∧
      (s.inp.op = 0b00 → o.valid = true ∧ o.result.toNat = bitCount s.inp.operand ∧ o.result.toNat ≤ 128 ∧
        (o.result.getLsbD 7 = true ↔ bitCount s.inp.operand = 128) ∧
        (o.result.getLsbD 7 = true ↔ s.inp.operand = BitVec.allOnes 128)) ∧
      (s.inp.op = 0b01 ∧ s.inp.operand ≠ 0 → o.valid = true ∧ ∃ i : BitVec 7,
        IsLowestSetBit s.inp.operand i.toNat ∧ o.result = 0b0#1 ++ i) ∧
      (s.inp.op = 0b10 ∧ s.inp.operand ≠ 0 → o.valid = true ∧ ∃ i : BitVec 7,
        IsHighestSetBit s.inp.operand i.toNat ∧ o.result = 0b0#1 ++ i) ∧
      ((s.inp.op = 0b01 ∨ s.inp.op = 0b10) ∧ s.inp.operand = 0 → o.valid = false ∧ o.result = 0x00) ∧
      (s.inp.op = 0b11 → o.valid = false ∧ o.result = 0x00) ∧
      (s.inp.op = 0b01 ∨ s.inp.op = 0b10 → o.result.getLsbD 7 = false)

/-- R68, R69 corner cases: with both halves non-zero the lowest set bit is reported below 64 and the highest from 64 on;
with one half zero both scans stay in the other half. -/
def Obligations.ScansPickTheRightHalf : Prop :=
  ∀ (s : State) (a : Operand), buildWellFormed s.build = true →
    ∃ f r : Outputs, exec (.bsf a) s = .next { s with out := f } ∧ exec (.bsr a) s = .next { s with out := r } ∧
      (lo a ≠ 0 → f.valid = true ∧ f.result.toNat < 64) ∧
      (hi a ≠ 0 → r.valid = true ∧ 64 ≤ r.result.toNat ∧ r.result.toNat < 128) ∧
      (lo a = 0 → hi a ≠ 0 → 64 ≤ f.result.toNat) ∧
      (hi a = 0 → lo a ≠ 0 → r.valid = true ∧ r.result.toNat < 64)

/-- The three operations agree with each other (R56, R68, R69): the lowest index is at most the highest, they are equal
exactly when the count is one, and every single-bit operand `2^n` gives `n`, `n` and 1 (95_test_vectors.md, S15). -/
def Obligations.ScansAndCountAgree : Prop :=
  ∀ (s : State) (a : Operand), buildWellFormed s.build = true → a ≠ 0 →
    ∃ c f r : Outputs, exec (.popcnt a) s = .next { s with out := c } ∧ exec (.bsf a) s = .next { s with out := f } ∧
      exec (.bsr a) s = .next { s with out := r } ∧
      f.result.toNat ≤ r.result.toNat ∧ (f.result = r.result ↔ c.result = 1) ∧
      c.result.toNat ≤ r.result.toNat - f.result.toNat + 1 ∧
      (∀ n, n < 128 → a = BitVec.twoPow 128 n → f.result.toNat = n ∧ r.result.toNat = n ∧ c.result = 1)

/-- Clearing the bit a scan found, as the source's iterators do (R82), takes one from the count (R56, R68, R69). -/
def Obligations.ClearingFoundBitTakesOneFromCount : Prop :=
  ∀ (s : State) (a : Operand), buildWellFormed s.build = true → a ≠ 0 →
    ∃ c f r cf cr : Outputs, exec (.popcnt a) s = .next { s with out := c } ∧
      exec (.bsf a) s = .next { s with out := f } ∧ exec (.bsr a) s = .next { s with out := r } ∧
      exec (.popcnt (a &&& ~~~(BitVec.twoPow 128 f.result.toNat))) s = .next { s with out := cf } ∧
      exec (.popcnt (a &&& ~~~(BitVec.twoPow 128 r.result.toNat))) s = .next { s with out := cr } ∧
      cf.result.toNat + 1 = c.result.toNat ∧ cr.result.toNat + 1 = c.result.toNat

/-- R93: a scan of the zero operand is no error: a next state, `valid = 0`, result 0, `illegal = 0`; POPCNT of zero is 0
with `valid = 1`. -/
def Obligations.EmptyOperandIsNoError : Prop :=
  ∀ s : State, buildWellFormed s.build = true → s.inp.operand = 0 → s.inp.op ≠ 0b11 →
    ∃ o : Outputs, step s = .next { s with out := o } ∧ o.result = 0x00 ∧ o.illegal = false ∧
      o.valid = decide (s.inp.op = 0b00)

/-! ### The popcount strategies -/

/-- R57: the reference meaning of POPCNT, its range, and that no strategy overflows the 8-bit port. -/
def Obligations.CountReferenceMeaningAndRange : Prop :=
  (∀ a : Operand, popRef a = pop64 (lo a) + pop64 (hi a) ∧ popRef a = bitCount a ∧ popRef a ≤ 128) ∧
  (∀ n, n ≤ 128 → ∃ a : Operand, popRef a = n) ∧
  (∀ (b : Build) (s : PopStrategy), buildWellFormed b = true →
    popBy b s 0 = 0 ∧ popBy b s (BitVec.allOnes 128) = 128 ∧
    ∀ a : Operand, popBy b s a = popRef a ∧ (zext8 (popBy b s a)).toNat = popBy b s a)

/-- R58: the four popcount strategies equal `POP` on every operand. -/
def Obligations.CountStrategiesAgree : Prop :=
  ∀ (b : Build) (a : Operand), buildWellFormed b = true →
    popHardware a = bitCount a ∧ popSwar a = bitCount a ∧ popTable4 b.t4 a = bitCount a ∧ popNaive a = bitCount a

/-- R61: the SWAR arithmetic law, stage by stage: no borrow or carry crosses a field boundary. -/
def Obligations.SwarFieldsHoldExactCounts : Prop :=
  ∀ x : Half,
    let x1 := swarPairs x
    let x2 := swarNibbles x1
    let x3 := swarBytes x2
    (∀ k, k < 32 → fieldAt 2 k x1 = (x.getLsbD (2 * k)).toNat + (x.getLsbD (2 * k + 1)).toNat ∧ fieldAt 2 k x1 ≤ 2) ∧
    (∀ k, k < 16 → fieldAt 4 k x2 = fieldAt 2 (2 * k) x1 + fieldAt 2 (2 * k + 1) x1 ∧ fieldAt 4 k x2 ≤ 4) ∧
    (∀ k, k < 8 → fieldAt 8 k x3 = fieldAt 4 (2 * k) x2 + fieldAt 4 (2 * k + 1) x2 ∧ fieldAt 8 k x3 ≤ 8) ∧
    (swarByteSum x3).toNat = ((List.range 8).map fun k => fieldAt 8 k x3).sum ∧
    (swarByteSum x3).toNat ≤ 64 ∧
    swar64 x = pop64 x

/-- R63: every entry of `T4` is the count of its pattern, and a build whose `T4` breaks this is ill-formed and refused.
That the refusal comes before the reserved `op` is looked at, and names one fixed failing check in `step` and in every
`exec`, is the model's choice (DESIGN CHOICE, log entry 9). -/
def Obligations.NibbleTableInvariant : Prop :=
  (∀ p : BitVec 4, t4Lookup t4Rule p = bitCount p) ∧
  (∀ (b : Build) (p : BitVec 4), buildWellFormed b = true → t4Lookup b.t4 p = bitCount p) ∧
  (∀ (s : State) (p : BitVec 4), t4Lookup s.build.t4 p ≠ bitCount p →
    buildWellFormed s.build = false ∧
    ∃ c : BuildCheck, step s = .refused (.illFormedBuild c) ∧ ∀ i : Instr, exec i s = .refused (.illFormedBuild c))

/-- R64: the TABLE4 loop ends within 32 iterations on every operand, so the bound never cuts it short; its corner cases. -/
def Obligations.NibbleLoopEndsWithinBound : Prop :=
  (∀ (t4 : Vector (BitVec 3) 16) (n : Nat) (a : Operand), 32 ≤ n →
    table4Loop t4 n a 0 = popTable4 t4 a ∧ table4Iterations n a = table4Iterations 32 a ∧ table4Iterations n a ≤ 32) ∧
  (∀ a : Operand, popTable4 t4Rule a = bitCount a) ∧
  table4Iterations 32 0 = 0 ∧ table4Iterations 32 1 = 1 ∧
  table4Iterations 32 (BitVec.allOnes 128) = 32 ∧ popTable4 t4Rule (BitVec.allOnes 128) = 128 ∧
  table4Iterations 32 (BitVec.twoPow 128 127) = 32 ∧ popTable4 t4Rule (BitVec.twoPow 128 127) = 1

/-- R65: `v & (v - 1)` clears exactly the lowest set bit, and the NAIVE loop runs exactly `POP(a)` iterations, at most
128, so the bound never cuts it short. -/
def Obligations.NaiveLoopRunsOncePerSetBit : Prop :=
  (∀ (v : Operand) (i : Nat), IsLowestSetBit v i →
    ∀ j, (v &&& (v - 1)).getLsbD j = (v.getLsbD j && decide (j ≠ i))) ∧
  (∀ (n : Nat) (a : Operand), 128 ≤ n →
    naiveIterations n a = bitCount a ∧ naiveIterations n a ≤ 128 ∧ naiveLoop n a 0 = popNaive a ∧ popNaive a = bitCount a)

/-! ### The bit-scan strategies -/

/-- R70: the reference meaning of the scans, and every strategy of each direction equals it on every operand. -/
def Obligations.ScanStrategiesAgree : Prop :=
  (∀ a : Operand,
    (lsbRef a = none ↔ a = 0) ∧ (∀ i, lsbRef a = some i ↔ IsLowestSetBit a i) ∧
    (msbRef a = none ↔ a = 0) ∧ (∀ i, msbRef a = some i ↔ IsHighestSetBit a i) ∧
    (∀ i, lsbRef a = some i ∨ msbRef a = some i → i ≤ 127)) ∧
  (∀ (b : Build) (s : ScanStrategy) (a : Operand), buildWellFormed b = true →
    bsfBy b s a = lsbRef a ∧ bsrBy b s a = msbRef a)

/-- R73, R74: the table of a well-formed build is the one its constant defines, each entry exactly once; for the default
constant it is the table R74 writes out. -/
def Obligations.DeBruijnTableIsTheConstants : Prop :=
  (∀ b : Build, buildWellFormed b = true →
    DistinctIndices b.params.deBruijnConst ∧ b.dbTable = dbTableOf b.params.deBruijnConst ∧
    ∀ k : BitVec 6, ∃ i : BitVec 6, dbBitSlot b.params.deBruijnConst i.toNat = k ∧ b.dbTable[k.toNat]'k.isLt = i ∧
      ∀ j, j < 64 → dbBitSlot b.params.deBruijnConst j = k → j = i.toNat) ∧
  dbTableOf 0x03F79D71B4CB0A89 = dbTableRule

/-- R75: `DB_INDEX(2^i) = i` for every bit of a half, with `DB_INDEX` the entry `DB_TABLE[(m *64 C) >> 58]`. -/
def Obligations.DeBruijnIndexFindsSingleBit : Prop :=
  ∀ (b : Build) (i : Nat), buildWellFormed b = true → i < 64 →
    dbIndex b (BitVec.twoPow 64 i) = i ∧
    b.dbTable[((BitVec.twoPow 64 i * b.params.deBruijnConst) >>> 58).toNat]? = some (BitVec.ofNat 6 i)

/-- R76: `x & neg64(x)` has exactly one bit set, at `tz64(x)`. -/
def Obligations.LowestBitIsolation : Prop :=
  ∀ x : Half, x ≠ 0 →
    tz64 x < 64 ∧ IsLowestSetBit x (tz64 x) ∧ isolateLowest x = BitVec.twoPow 64 (tz64 x) ∧ bitCount (isolateLowest x) = 1

/-- R78: `1 << (63 - lz64(x))` is the highest set bit of a non-zero half, alone, and `DB_INDEX` of it is its index. -/
def Obligations.HighestBitIsolation : Prop :=
  ∀ (b : Build) (x : Half), buildWellFormed b = true → x ≠ 0 →
    lz64 x < 64 ∧ IsHighestSetBit x (63 - lz64 x) ∧ isolateHighest x = BitVec.twoPow 64 (63 - lz64 x) ∧
    dbIndex b (isolateHighest x) = 63 - lz64 x

/-! ### Strategy selection -/

/-- R84: the density is the sum of the two half counts, which is the population count. -/
def Obligations.DensityIsPopulationCount : Prop :=
  ∀ a : Operand, density a = bitCount (lo a) + bitCount (hi a) ∧ density a = popRef a ∧ density a = bitCount a

/-- R85: the popcount strategy, line by line, as the code POPCNT drives on the `strategy` port. -/
def Obligations.CountStrategyChoice : Prop :=
  ∀ (s : State) (a : Operand), buildWellFormed s.build = true →
    ∃ o : Outputs, exec (.popcnt a) s = .next { s with out := o } ∧
      let p := s.build.params
      (p.popcntImpl = .hardware ∧ p.hwPopcntAvail = true → o.strategy = 0b000) ∧
      (p.popcntImpl = .hardware ∧ p.hwPopcntAvail = false → o.strategy = 0b001) ∧
      (p.popcntImpl = .swar → o.strategy = 0b001) ∧
      (p.popcntImpl = .table4 → o.strategy = 0b010) ∧
      (p.popcntImpl = .naive → o.strategy = 0b011) ∧
      (p.popcntImpl = .auto ∧ p.adaptive = false → o.strategy = 0b010) ∧
      (p.popcntImpl = .auto ∧ p.adaptive = true ∧ p.hwPopcntAvail = true → o.strategy = 0b000) ∧
      (p.popcntImpl = .auto ∧ p.adaptive = true ∧ p.hwPopcntAvail = false ∧ bitCount a < p.densityThreshold →
        o.strategy = 0b010) ∧
      (p.popcntImpl = .auto ∧ p.adaptive = true ∧ p.hwPopcntAvail = false ∧ p.densityThreshold ≤ bitCount a →
        o.strategy = 0b001)

/-- R86: the bit-scan strategy, line by line, as the code BSF and BSR drive on the `strategy` port for every operand, the
zero operand too. -/
def Obligations.ScanStrategyChoice : Prop :=
  ∀ (s : State) (i : Instr) (a : Operand), buildWellFormed s.build = true → i = .bsf a ∨ i = .bsr a →
    ∃ o : Outputs, exec i s = .next { s with out := o } ∧
      let p := s.build.params
      (p.bitscanImpl = .hardware ∧ p.hwBitscanAvail = true → o.strategy = 0b000) ∧
      (p.bitscanImpl = .hardware ∧ p.hwBitscanAvail = false → o.strategy = 0b100) ∧
      (p.bitscanImpl = .deBruijn → o.strategy = 0b100) ∧
      (p.bitscanImpl = .software → o.strategy = 0b101) ∧
      (p.bitscanImpl = .auto ∧ p.adaptive = false → o.strategy = 0b100) ∧
      (p.bitscanImpl = .auto ∧ p.adaptive = true ∧ p.hwBitscanAvail = true → o.strategy = 0b000) ∧
      (p.bitscanImpl = .auto ∧ p.adaptive = true ∧ p.hwBitscanAvail = false → o.strategy = 0b100)

/-- R48, R49, R54: a build contains exactly the native primitives its flags say, each exact, and a strategy that calls
one runs only in a build that has it. That a primitive is data of the build is the model's choice (DESIGN CHOICE, log
entry 6). -/
def Obligations.HardwareRunsOnlyWithItsPrimitive : Prop :=
  ∀ (b : Build) (a : Operand), buildWellFormed b = true →
    (b.params.hwPopcntAvail = true → b.popPrimitive = .exact) ∧
    (b.params.hwPopcntAvail = false → b.popPrimitive = .absent) ∧
    (b.params.hwBitscanAvail = true → b.tzPrimitive = .exact ∧ b.lzPrimitive = .exact) ∧
    (b.params.hwBitscanAvail = false → b.tzPrimitive = .absent ∧ b.lzPrimitive = .absent) ∧
    (popStrategy b.params a = .hardware → b.params.hwPopcntAvail = true ∧ b.popPrimitive = .exact) ∧
    (scanStrategy b.params = .hardware →
      b.params.hwBitscanAvail = true ∧ b.tzPrimitive = .exact ∧ b.lzPrimitive = .exact)

/-- R55: the preferred strategies, and that they are what the adaptive policy chooses without reading the operand. -/
def Obligations.PreferredStrategies : Prop :=
  ∀ p : Params,
    preferredPop p = (if p.hwPopcntAvail then .hardware else .swar) ∧
    preferredScan p = (if p.hwBitscanAvail then .hardware else .deBruijn) ∧
    (p.bitscanImpl = .auto → p.adaptive = true → scanStrategy p = preferredScan p) ∧
    (p.popcntImpl = .auto → p.adaptive = true → ∀ a : Operand,
      p.hwPopcntAvail = true ∨ p.densityThreshold ≤ density a → popStrategy p a = preferredPop p)

/-- R88: two well-formed builds, whatever their parameters, drive the same `result`, `valid` and `illegal` for the same
inputs; only `strategy` may differ. -/
def Obligations.BuildNeverChangesTheResult : Prop :=
  ∀ s t : State, buildWellFormed s.build = true → buildWellFormed t.build = true → s.inp = t.inp →
    ∃ o q : Outputs, sampled (step s) = some o ∧ sampled (step t) = some q ∧
      o.result = q.result ∧ o.valid = q.valid ∧ o.illegal = q.illegal

/-- R53: no output depends on `ARCH_TAG`, and no check of the build does. -/
def Obligations.ArchTagIsNeverRead : Prop :=
  ∀ (s : State) (tag : String),
    let t : State := { s with build := { s.build with params := { s.build.params with archTag := tag } } }
    buildWellFormed t.build = buildWellFormed s.build ∧ sampled (step t) = sampled (step s) ∧
    ∀ i : Instr, sampled (exec i t) = sampled (exec i s)

/-! ### The reserved request -/

/-- R92: the reserved `op` drives its fixed outputs for every operand, as a fault; `illegal` is driven for no other `op`;
nothing is changed and the next evaluation is unaffected. -/
def Obligations.ReservedRequestIsSignalled : Prop :=
  ∀ s : State, buildWellFormed s.build = true →
    (s.inp.op = 0b11 →
      step s = .fault (.reservedOp { result := 0x00, valid := false, illegal := true, strategy := 0b111 }) ∧
      ∃ t : State, observe s.inp s =
          some ({ result := 0x00, valid := false, illegal := true, strategy := 0b111 }, t) ∧
        t.inp = s.inp ∧ t.build = s.build ∧ ∀ j : Inputs, sampled (step (drive j t)) = sampled (step (drive j s))) ∧
    (s.inp.op ≠ 0b11 → ∃ t : State, step s = .next t ∧ t.out.illegal = false)

/-- R91, R92, R113: an evaluation of a well-formed build always ends, in a next state or, for the reserved `op` and no
other, in its fault; it is never refused. -/
def Obligations.EveryEvaluationCompletes : Prop :=
  ∀ s : State, buildWellFormed s.build = true →
    ((∃ t : State, step s = .next t) ↔ legalRequest s.inp = true) ∧
    ((∃ o : Outputs, step s = .fault (.reservedOp o)) ↔ legalRequest s.inp = false) ∧
    (∀ r : Refusal, step s ≠ .refused r)

/-! ### Builds and reset -/

/-- R108, R48, R49: a build is well formed exactly when the five conditions of R108 hold, its tables and primitives those
its parameters say, and every evaluation of one that fails a condition is refused, by the name of a check that fails.
R108 says "only if": that nothing more is asked than its conditions and the absence R48 and R49 state is inferred. That a
primitive is data of the build is the model's choice (DESIGN CHOICE, log entry 6), and so is that the refusal comes
before the reserved `op` is looked at and names one fixed failing check in `step` and in every `exec` (DESIGN CHOICE,
log entry 9). -/
def Obligations.IllFormedBuildsAreRefused : Prop :=
  (∀ b : Build, buildWellFormed b = true ↔
    (∀ p : BitVec 4, t4Lookup b.t4 p = bitCount p) ∧
    (DistinctIndices b.params.deBruijnConst ∧ ∀ i, i < 64 → dbIndex b (BitVec.twoPow 64 i) = i) ∧
    ((b.params.hwPopcntAvail = true → b.popPrimitive = .exact) ∧
      (b.params.hwBitscanAvail = true → b.tzPrimitive = .exact ∧ b.lzPrimitive = .exact)) ∧
    ((b.params.hwPopcntAvail = false → b.popPrimitive = .absent) ∧
      (b.params.hwBitscanAvail = false → b.tzPrimitive = .absent ∧ b.lzPrimitive = .absent)) ∧
    (1 ≤ b.params.densityThreshold ∧ b.params.densityThreshold ≤ 129) ∧
    (b.params.popcntImpl ∈ [PopImpl.auto, .hardware, .swar, .table4, .naive] ∧
      b.params.bitscanImpl ∈ [ScanImpl.auto, .hardware, .deBruijn, .software])) ∧
  (∀ s : State, buildWellFormed s.build = false → ∃ c : BuildCheck, checkHolds s.build c = false ∧
    step s = .refused (.illFormedBuild c) ∧ ∀ i : Instr, exec i s = .refused (.illFormedBuild c))

/-- R7, R54, R74: every parameter record in its value ranges, with any constant R73 allows, has a well-formed build,
whose tables are the ones of R62 and R74. -/
def Obligations.EveryLegalRecordHasABuild : Prop :=
  ∀ p : Params, DistinctIndices p.deBruijnConst → 1 ≤ p.densityThreshold → p.densityThreshold ≤ 129 →
    buildWellFormed (buildOf p) = true ∧ (buildOf p).params = p

/-- R7, R50, R29, R106: `State.reset` holds the default parameters, the tables at their rule values, and a well-formed
build. R29 and R106 say that the parameters after reset are the build's: that `State.reset` is that of the default build
is the model's choice of a build (DEDUCED, log entry 3). -/
def Obligations.ResetLeavesTheDefaultBuild : Prop :=
  State.reset.build.params = {
    hwPopcntAvail := false, hwBitscanAvail := false, archTag := "unknown", adaptive := true, popcntImpl := .auto,
    bitscanImpl := .auto, densityThreshold := 16, deBruijnConst := 0x03F79D71B4CB0A89 } ∧
  State.reset.build.t4 = t4Rule ∧ State.reset.build.dbTable = dbTableRule ∧ buildWellFormed State.reset.build = true

/-- R29, R106: the outputs at reset are `F_P` of the inputs. The inputs are zero and the build is the default one
by the model's choice (DESIGN CHOICE, log entry 1; DEDUCED, log entry 3), and the outputs are a field (DEDUCED, log entry
2); the invariant would hold for any inputs and any well-formed build. -/
def Obligations.InvariantHoldsAtReset : Prop := Inv State.reset

/-! ### Sequences of evaluations -/

/-- R16, R43: what a step drives is `F_P` of the inputs, in every state of a well-formed build. -/
def Obligations.StepDrivesTheBlockFunction : Prop :=
  ∀ s : State, buildWellFormed s.build = true → sampled (step s) = some (evalFunction s.build s.inp)

/-- R16, R29, R41, R42, R51: every step keeps the invariant: the build stays well formed, the outputs are `F_P` of the
inputs, in the range of the operation, and the code 0b110 is never driven. -/
def Obligations.StepKeepsInvariant : Prop :=
  ∀ s t : State, Inv s → step s = .next t → Inv t

/-- R16, R30, R92: every evaluation of a host, a reserved one too, keeps the invariant, whatever sequence it is part of. -/
def Obligations.HostSequencesKeepInvariant : Prop :=
  ∀ (reqs : List Inputs) (s : State), Inv s → ∃ (os : List Outputs) (t : State), observeAll reqs s = some (os, t) ∧ Inv t

/-- R17: no evaluation of a sequence reads an earlier one or leaves anything behind: each drives `F_P` of its own inputs,
and the build stays as it was. -/
def Obligations.EvaluationsAreIndependent : Prop :=
  ∀ (reqs : List Inputs) (s : State), buildWellFormed s.build = true →
    ∃ t : State, observeAll reqs s = some (reqs.map (evalFunction s.build), t) ∧ t.build = s.build

/-- R35: an evaluation repeated gives the same outputs and changes nothing. -/
def Obligations.RepeatedEvaluationIsIdempotent : Prop :=
  ∀ s t : State, step s = .next t → step t = .next t

/-- R92: a sequence has no `illegal = 1` exactly when none of its requests is reserved. -/
def Obligations.NoIllegalIffNoReservedRequest : Prop :=
  ∀ (reqs : List Inputs) (s : State), buildWellFormed s.build = true →
    ∃ (os : List Outputs) (t : State), observeAll reqs s = some (os, t) ∧ os.length = reqs.length ∧
      (noIllegal os = true ↔ ∀ i ∈ reqs, legalRequest i = true)

/-- R90: the counters a host keeps of the strategy codes of an operation sum to the number of its evaluations, over the
codes of its own family alone. -/
def Obligations.StrategyCountersSumToEvaluations : Prop :=
  ∀ (reqs : List Inputs) (s : State), buildWellFormed s.build = true →
    ∃ (os : List Outputs) (t : State), observeAll reqs s = some (os, t) ∧
      let count := fun (op : OpCode) (code : BitVec 3) => strategyCounter op code (reqs.zip os)
      count 0b00 0b000 + count 0b00 0b001 + count 0b00 0b010 + count 0b00 0b011 = reqs.countP (fun i => i.op == 0b00) ∧
      ∀ op : OpCode, op = 0b01 ∨ op = 0b10 →
        count op 0b000 + count op 0b100 + count op 0b101 = reqs.countP (fun i => i.op == op)
end

