-- ==== Sys2Proof/Laws/Bits.lean ====
section
/-! SUPPORT. What the reference functions of R12 and the loops of R79 and R80 answer, said once. -/

namespace Sys2Proof.Machine

theorem find_range_eq_some_iff {p : Nat → Bool} {n i : Nat} :
    (List.range n).find? p = some i ↔ i < n ∧ p i = true ∧ ∀ j, j < i → p j = false := by
  rw [List.find?_range_eq_some]
  simp only [List.mem_range, Bool.not_eq_eq_eq_not, Bool.not_true]
  tauto

theorem leastSetBit_eq_some_iff {w n : Nat} {x : BitVec w} {i : Nat} :
    leastSetBit n x = some i ↔ i < n ∧ Safety.IsLowestSetBit x i := find_range_eq_some_iff

theorem leastSetBit_eq_none_iff {w n : Nat} {x : BitVec w} :
    leastSetBit n x = none ↔ ∀ i, i < n → x.getLsbD i = false := by
  simp [leastSetBit, List.find?_eq_none]

theorem greatestSetBit_eq_none_iff {w n : Nat} {x : BitVec w} :
    greatestSetBit n x = none ↔ ∀ i, i < n → x.getLsbD i = false := by
  simp [greatestSetBit, List.find?_eq_none]

theorem greatestSetBit_zero {w : Nat} (x : BitVec w) : greatestSetBit 0 x = none := rfl

theorem greatestSetBit_succ {w : Nat} (n : Nat) (x : BitVec w) :
    greatestSetBit (n + 1) x = if x.getLsbD n then some n else greatestSetBit n x := by
  simp only [greatestSetBit, List.range_succ, List.reverse_append, List.reverse_cons, List.reverse_nil,
    List.nil_append, List.singleton_append, List.find?_cons]
  cases x.getLsbD n <;> rfl

theorem greatestSetBit_eq_some_iff {w n : Nat} {x : BitVec w} {i : Nat} :
    greatestSetBit n x = some i ↔ i < n ∧ x.getLsbD i = true ∧ ∀ j, i < j → j < n → x.getLsbD j = false := by
  induction n with
  | zero => simp [greatestSetBit_zero]
  | succ n ih =>
    rw [greatestSetBit_succ]
    by_cases hn : x.getLsbD n = true
    · simp only [hn, if_true, Option.some.injEq]
      constructor
      · rintro rfl
        exact ⟨by omega, hn, fun j h1 h2 => by omega⟩
      · rintro ⟨h1, _, h3⟩
        by_contra hne
        have := h3 n (by omega) (by omega)
        simp [hn] at this
    · simp only [hn, Bool.false_eq_true, if_false, ih]
      constructor
      · rintro ⟨h1, h2, h3⟩
        refine ⟨by omega, h2, fun j hj hjn => ?_⟩
        by_cases hj' : j = n
        · subst hj'
          simpa using hn
        · exact h3 j hj (by omega)
      · rintro ⟨h1, h2, h3⟩
        have : i ≠ n := by
          rintro rfl
          exact hn h2
        exact ⟨by omega, h2, fun j hj hjn => h3 j hj (by omega)⟩

/-- The loop of R79 answers the least set bit at or after where it starts, within its steps. -/
theorem scanUp_eq_some_iff {a : Operand} {n i k : Nat} :
    scanUp a n i = some k ↔
      i ≤ k ∧ k < i + n ∧ a.getLsbD k = true ∧ ∀ j, i ≤ j → j < k → a.getLsbD j = false := by
  induction n generalizing i with
  | zero =>
    simp only [scanUp, reduceCtorEq, false_iff, not_and]
    omega
  | succ n ih =>
    rw [scanUp]
    by_cases hi : a.getLsbD i = true
    · simp only [hi, if_true, Option.some.injEq]
      constructor
      · rintro rfl
        exact ⟨le_refl _, by omega, hi, fun j h1 h2 => by omega⟩
      · rintro ⟨h1, _, _, h4⟩
        by_contra hne
        have := h4 i (le_refl _) (by omega)
        simp [hi] at this
    · simp only [hi, Bool.false_eq_true, if_false, ih]
      constructor
      · rintro ⟨h1, h2, h3, h4⟩
        refine ⟨by omega, by omega, h3, fun j hj hjk => ?_⟩
        by_cases hj' : j = i
        · subst hj'
          simpa using hi
        · exact h4 j (by omega) hjk
      · rintro ⟨h1, h2, h3, h4⟩
        have : k ≠ i := by
          rintro rfl
          exact hi h3
        exact ⟨by omega, by omega, h3, fun j hj hjk => h4 j (by omega) hjk⟩

/-- The loop of R80 is the reference search for the greatest set bit. -/
theorem scanDown_eq_greatestSetBit (a : Operand) (n : Nat) : scanDown a n = greatestSetBit n a := by
  induction n with
  | zero => rfl
  | succ n ih => rw [scanDown, greatestSetBit_succ, ih]

@[simp] theorem bitSum_zero {w : Nat} (x : BitVec w) : bitSum 0 x = 0 := rfl

theorem bitSum_succ {w : Nat} (n : Nat) (x : BitVec w) : bitSum (n + 1) x = bitSum n x + (x.getLsbD n).toNat := by
  simp [bitSum, List.range_succ]

theorem bitSum_le {w : Nat} (n : Nat) (x : BitVec w) : bitSum n x ≤ n := by
  induction n with
  | zero => simp
  | succ n ih =>
    rw [bitSum_succ]
    have := (x.getLsbD n).toNat_le
    omega

end Sys2Proof.Machine
end

