-- ==== Sys2Proof/Laws/Build.lean ====
section
/-! SUPPORT. What well-formedness of a build gives: each check of R108 by its name. -/

namespace Sys2Proof

@[simp] theorem nativePrimitive_true : Machine.nativePrimitive true = .exact := rfl
@[simp] theorem nativePrimitive_false : Machine.nativePrimitive false = .absent := rfl

theorem mem_allChecks (c : BuildCheck) : c ∈ Machine.allChecks := by
  cases c <;> simp [Machine.allChecks]

theorem buildWellFormed_iff_noFailedCheck (b : Build) :
    buildWellFormed b = true ↔ Machine.firstFailedCheck b = none := by
  simp [buildWellFormed]

theorem buildWellFormed_iff_checksHold (b : Build) :
    buildWellFormed b = true ↔ ∀ c, Machine.checkHolds b c = true := by
  rw [buildWellFormed_iff_noFailedCheck, Machine.firstFailedCheck, List.find?_eq_none]
  simp [mem_allChecks]

theorem firstFailedCheck_fails {b : Build} {c : BuildCheck} (h : Machine.firstFailedCheck b = some c) :
    Machine.checkHolds b c = false := by
  simpa using List.find?_some h

end Sys2Proof
end

