-- ==== Sys2Proof/Laws/Operands.lean ====
section
/-! SUPPORT. The bits of a request word (30_encoding.md R38). -/

namespace Sys2Proof.Machine

theorem getLsbD_requestWord (op : OpCode) (a : Operand) (i : Nat) :
    (requestWord op a).getLsbD i = if i < 128 then a.getLsbD i else op.getLsbD (i - 128) :=
  BitVec.getLsbD_append

theorem getLsbD_opField (w : RequestWord) (i : Nat) :
    (opField w).getLsbD i = (decide (i < 2) && w.getLsbD (128 + i)) := by
  simp [opField, BitVec.getLsbD_extractLsb']

theorem getLsbD_operandField (w : RequestWord) (i : Nat) :
    (operandField w).getLsbD i = (decide (i < 128) && w.getLsbD i) := by
  simp [operandField, BitVec.getLsbD_extractLsb']

end Sys2Proof.Machine
end

