-- ==== Sys2Proof/Laws/State.lean ====
section
/-! SUPPORT. One lemma per field per update of State, true by rfl, and the reset fields. -/

namespace Sys2Proof.Machine

@[simp] theorem drive_inp (i : Inputs) (s : State) : (drive i s).inp = i := rfl
@[simp] theorem drive_out (i : Inputs) (s : State) : (drive i s).out = s.out := rfl
@[simp] theorem drive_build (i : Inputs) (s : State) : (drive i s).build = s.build := rfl
@[simp] theorem driveOutputs_inp (o : Outputs) (s : State) : (driveOutputs o s).inp = s.inp := rfl
@[simp] theorem driveOutputs_out (o : Outputs) (s : State) : (driveOutputs o s).out = o := rfl
@[simp] theorem driveOutputs_build (o : Outputs) (s : State) : (driveOutputs o s).build = s.build := rfl
@[simp] theorem driveOutputs_driveOutputs (o q : Outputs) (s : State) :
    driveOutputs o (driveOutputs q s) = driveOutputs o s := rfl
@[simp] theorem drive_drive (i j : Inputs) (s : State) : drive i (drive j s) = drive i s := rfl
theorem drive_driveOutputs (i : Inputs) (o : Outputs) (s : State) :
    drive i (driveOutputs o s) = driveOutputs o (drive i s) := rfl
@[simp] theorem fetch_driveOutputs (o : Outputs) (s : State) : fetch (driveOutputs o s) = fetch s := rfl
@[simp] theorem fetch_drive (i : Inputs) (s : State) : fetch (drive i s) = requestWord i.op i.operand := rfl
@[simp] theorem withFetchWord_build (s : State) (nbits w : Nat) : (s.withFetchWord nbits w).build = s.build := rfl
@[simp] theorem withFetchWord_inp (s : State) (nbits w : Nat) :
    (s.withFetchWord nbits w).inp = inputsOfWord (BitVec.ofNat 130 (w % 2 ^ nbits)) := rfl
@[simp] theorem reset_inp : State.reset.inp = resetInputs := rfl
@[simp] theorem reset_build : State.reset.build = defaultBuild := rfl

end Sys2Proof.Machine
end

