-- ==== Sys2Proof/Laws/Ops.lean ====
section
/-! SUPPORT. Everything the shared operations over State can do, said once. -/

namespace Sys2Proof.Machine

variable {s t : State} {f : Build → Outputs}

theorem evaluate_of_wellFormed (h : buildWellFormed s.build = true) :
    evaluate f s = .next (driveOutputs (f s.build) s) := by
  rw [buildWellFormed_iff_noFailedCheck] at h
  simp [evaluate, h]

theorem evaluate_of_failedCheck {c : BuildCheck} (h : firstFailedCheck s.build = some c) :
    evaluate f s = .refused (.illFormedBuild c) := by
  simp [evaluate, h]

/-- The inversion lemma of `evaluate`: a next state is of a well-formed build, with only the outputs driven. -/
theorem evaluate_eq_next_iff :
    evaluate f s = .next t ↔ buildWellFormed s.build = true ∧ t = driveOutputs (f s.build) s := by
  rw [buildWellFormed_iff_noFailedCheck]
  unfold evaluate
  split <;> rename_i h
  · simp [h]
  · simp [h, eq_comm (a := t)]

theorem signalReserved_of_wellFormed (h : buildWellFormed s.build = true) :
    signalReserved s = .fault (.reservedOp reservedOutputs) := by
  rw [buildWellFormed_iff_noFailedCheck] at h
  simp [signalReserved, h]

theorem signalReserved_of_failedCheck {c : BuildCheck} (h : firstFailedCheck s.build = some c) :
    signalReserved s = .refused (.illFormedBuild c) := by
  simp [signalReserved, h]

/-- `signalReserved` never answers a next state. -/
theorem signalReserved_ne_next : signalReserved s ≠ .next t := by
  unfold signalReserved
  split <;> simp

theorem exec_popcnt (a : Operand) : exec (.popcnt a) s = evaluate (fun b => popcntOutputs b a) s := rfl
theorem exec_bsf (a : Operand) : exec (.bsf a) s = evaluate (fun b => bsfOutputs b a) s := rfl
theorem exec_bsr (a : Operand) : exec (.bsr a) s = evaluate (fun b => bsrOutputs b a) s := rfl

@[simp] theorem sampled_next : sampled (.next t) = some t.out := rfl
@[simp] theorem sampled_reserved (o : Outputs) : sampled (.fault (.reservedOp o)) = some o := rfl
@[simp] theorem sampled_refused (r : Refusal) : sampled (.refused r) = none := rfl

/-- What `observe` answers: the outputs sampled, on the inputs driven, with the build as it was. -/
theorem observe_eq_some_iff {i : Inputs} {o : Outputs} :
    observe i s = some (o, t) ↔ sampled (step (drive i s)) = some o ∧ t = driveOutputs o (drive i s) := by
  unfold observe
  cases sampled (step (drive i s)) with
  | none => simp
  | some q =>
    simp only [Option.map_some, Option.some.injEq, Prod.mk.injEq]
    constructor
    · rintro ⟨rfl, h⟩
      exact ⟨rfl, h.symm⟩
    · rintro ⟨rfl, h⟩
      exact ⟨rfl, h.symm⟩

end Sys2Proof.Machine
end

