-- ==== Sys2Proof/Laws/PerInstr.lean ====
section
/-! SUPPORT. The per-instruction family: what the encoding of each instruction holds, bit by bit (30_encoding.md R38, R39). -/

namespace Sys2Proof.Laws.EncodingFields

/-- Bits 127:0 of the word of an instruction are its operand, and bits 129:128 are the `op` of its row of R39. -/
def Statement (i : Instr) : Prop :=
  match i with
  | .popcnt a => ∀ n, (encode i).getLsbD n = if n < 128 then a.getLsbD n else false
  | .bsf a => ∀ n, (encode i).getLsbD n = if n < 128 then a.getLsbD n else decide (n = 128)
  | .bsr a => ∀ n, (encode i).getLsbD n = if n < 128 then a.getLsbD n else decide (n = 129)

theorem popcnt (a : Operand) : Statement (.popcnt a) := by
  intro n
  rw [encode, Machine.getLsbD_requestWord]
  split
  · rfl
  · exact BitVec.getLsbD_zero

theorem bsf (a : Operand) : Statement (.bsf a) := by
  intro n
  rw [encode, Machine.getLsbD_requestWord]
  split <;> rename_i h
  · rfl
  · obtain ⟨k, rfl⟩ := Nat.exists_eq_add_of_le (Nat.le_of_not_lt h)
    match k with
    | 0 => rfl
    | 1 => rfl
    | k + 2 => rw [BitVec.getLsbD_of_ge _ _ (by omega), decide_eq_false (by omega)]

theorem bsr (a : Operand) : Statement (.bsr a) := by
  intro n
  rw [encode, Machine.getLsbD_requestWord]
  split <;> rename_i h
  · rfl
  · obtain ⟨k, rfl⟩ := Nat.exists_eq_add_of_le (Nat.le_of_not_lt h)
    match k with
    | 0 => rfl
    | 1 => rfl
    | k + 2 => rw [BitVec.getLsbD_of_ge _ _ (by omega), decide_eq_false (by omega)]

end Sys2Proof.Laws.EncodingFields
end

