-- ==== Sys2Proof/Tests/Slice0.lean ====
section
/-! SUPPORT. The model's own tests. Expected values are those of spec/95_test_vectors.md (the vector is named) or are worked out from the rule named. Below them, for each statement with hypotheses, a concrete state that meets them. -/

namespace Sys2Proof.Tests

open Sys2Proof.Machine Sys2Proof.Safety

/-- The default tables with other parameters, and the native primitives the flags say (R48, R49, R54). -/
def buildWith (p : Params) : Build :=
  { defaultBuild with
    params := p
    popPrimitive := nativePrimitive p.hwPopcntAvail
    tzPrimitive := nativePrimitive p.hwBitscanAvail
    lzPrimitive := nativePrimitive p.hwBitscanAvail }

/-- The state after reset of a build, with inputs driven. -/
def stateWith (p : Params) (op : OpCode) (a : Operand) : State :=
  drive { op := op, operand := a } { State.reset with build := buildWith p }

/-- What the host samples after one step of the default build `P0`. -/
def outP0 (op : OpCode) (a : Operand) : Option Outputs := sampled (step (stateWith defaultParams op a))

/-- The strategy code a build drives for a request. -/
def codeWith (p : Params) (op : OpCode) (a : Operand) : BitVec 3 :=
  (evalFunction (buildWith p) { op := op, operand := a }).strategy

/-- The check a refusal names. -/
def refusedFor (r : Host.Outcome State Fault Refusal) : Option BuildCheck :=
  match r with
  | .refused (.illFormedBuild c) => some c
  | _ => none

/-! ### Well-formedness: an ill-formed term for each check -/

/-- R63: `T4[15]` is 3 instead of 4. -/
def badT4 : Build := { defaultBuild with t4 := t4Rule.set 15 3 }
/-- R73: the constant 1 gives the index 0 to most bits. -/
def badConst : Build := { defaultBuild with params := { defaultParams with deBruijnConst := 1 } }
/-- R74: `DB_TABLE[2]` is 47 instead of 48. -/
def badDbTable : Build := { defaultBuild with dbTable := dbTableRule.set 2 47 }
/-- R54: a flag is set and the primitive is inexact. -/
def badPop : Build := { buildWith { defaultParams with hwPopcntAvail := true } with popPrimitive := .inexact }
/-- R54: a flag is set and the primitive is absent. -/
def badTz : Build := { buildWith { defaultParams with hwBitscanAvail := true } with tzPrimitive := .absent }
/-- R54: a flag is set and the primitive is inexact. -/
def badLz : Build := { buildWith { defaultParams with hwBitscanAvail := true } with lzPrimitive := .inexact }
/-- R48: the flag is false and a primitive is present. -/
def strayPop : Build := { defaultBuild with popPrimitive := .exact }
/-- R49: the flag is false and a primitive is present. -/
def strayTz : Build := { defaultBuild with tzPrimitive := .exact }
/-- R49: the flag is false and a primitive is present, inexact. -/
def strayLz : Build := { defaultBuild with lzPrimitive := .inexact }
/-- R108 item 4: below the range. -/
def badLow : Build := buildWith { defaultParams with densityThreshold := 0 }
/-- R108 item 4: above the range. -/
def badHigh : Build := buildWith { defaultParams with densityThreshold := 130 }

theorem test_wf_default : firstFailedCheck defaultBuild = none := by decide
theorem test_wf_t4 : firstFailedCheck badT4 = some .t4Entries := by decide
theorem test_wf_const : firstFailedCheck badConst = some .deBruijnConstant := by decide
theorem test_wf_dbTable : firstFailedCheck badDbTable = some .dbTableEntries := by decide
theorem test_wf_pop : firstFailedCheck badPop = some .popPrimitive := by decide
theorem test_wf_tz : firstFailedCheck badTz = some .tzPrimitive := by decide
theorem test_wf_lz : firstFailedCheck badLz = some .lzPrimitive := by decide
theorem test_wf_strayPop : firstFailedCheck strayPop = some .popPrimitive := by decide
theorem test_wf_strayTz : firstFailedCheck strayTz = some .tzPrimitive := by decide
theorem test_wf_strayLz : firstFailedCheck strayLz = some .lzPrimitive := by decide
theorem test_wf_thresholdLow : firstFailedCheck badLow = some .densityThreshold := by decide
theorem test_wf_thresholdHigh : firstFailedCheck badHigh = some .densityThreshold := by decide
theorem test_wf_refusesStep : refusedFor (step { State.reset with build := badDbTable }) = some .dbTableEntries := by decide
theorem test_wf_reservedRequest : requestWellFormed 0x30000000000000000000000000000000A = false := by decide
theorem test_wf_tooWide : isRequestWord (2 ^ 130) = false := by decide

/-! ### Decoding, from words written out (R38, R39) -/

theorem test_decode_popcnt : decode 0x0FFFFFFFFFFFFFFFF0000000000000000#130 =
    .ok (.popcnt 0xFFFFFFFFFFFFFFFF0000000000000000) := rfl
theorem test_decode_bsf : decode 0x10000001000000000_0000000000000008#130 = .ok (.bsf 0x00000010000000000000000000000008) := rfl
theorem test_decode_bsr : decode 0x28000000000000000_0000000000000001#130 = .ok (.bsr 0x80000000000000000000000000000001) := rfl
theorem test_decode_reserved : decode 0x30000000000000000_000000000000000A#130 = .error .reservedOp := rfl
theorem test_decode_tooWide : decodeNat (2 ^ 130) = .error .notARequestWord := rfl
theorem test_decode_tableWord : decodeTableWord 136 0x100000000000000000000000000000005 = some (.bsf 5) := by decide
theorem test_decode_tablePadding : decodeTableWord 136 (2 ^ 135) = none := by decide
theorem test_encode_bsr : encode (.bsr 0b1010) = 0x20000000000000000000000000000000A#130 := by decide

/-! ### One step of each operation -/

/-- FV2. -/
theorem test_popcnt_allOnes : outP0 0b00 (BitVec.allOnes 128) =
    some { result := 0x80, valid := true, illegal := false, strategy := 0b001 } := by decide
/-- PV16: bits 0 and 127. -/
theorem test_popcnt_bothEnds : outP0 0b00 0x80000000000000000000000000000001 =
    some { result := 2, valid := true, illegal := false, strategy := 0b010 } := by decide
/-- FV4. -/
theorem test_bsf_zero : outP0 0b01 0 =
    some { result := 0, valid := false, illegal := false, strategy := 0b100 } := by decide
/-- BV16: bit 80 alone, in the upper half. -/
theorem test_bsf_upperHalf : outP0 0b01 0x00000000000100000000000000000000 =
    some { result := 80, valid := true, illegal := false, strategy := 0b100 } := by decide
/-- BV5: bit 64 alone (90_conflicts.md C2). -/
theorem test_bsr_bit64 : outP0 0b10 0x00000000000000010000000000000000 =
    some { result := 64, valid := true, illegal := false, strategy := 0b100 } := by decide
/-- FV9: `Some(0)` is not `None`. -/
theorem test_bsr_bit0 : outP0 0b10 1 =
    some { result := 0, valid := true, illegal := false, strategy := 0b100 } := by decide
/-- FV12. -/
theorem test_reserved : outP0 0b11 0xA =
    some { result := 0, valid := false, illegal := true, strategy := 0b111 } := by decide

/-! ### Operations and tables -/

/-- SW5, stage by stage. -/
theorem test_swar_stages :
    swarPairs 0x0123456789ABCDEF = 0x011245564556899A ∧ swarNibbles 0x011245564556899A = 0x0112122312232334 ∧
    swarBytes 0x0112122312232334 = 0x0103030503050507 ∧ swarByteSum 0x0103030503050507 = 32 := by decide
/-- Section 2.2: `2^127` takes 32 iterations of R64 and one of R65. -/
theorem test_loop_iterations :
    table4Iterations 100 (BitVec.twoPow 128 127) = 32 ∧ naiveIterations 200 (BitVec.twoPow 128 127) = 1 := ⟨rfl, rfl⟩
/-- BV15: index 34 of the isolated highest bit of the upper half. -/
theorem test_deBruijn_slot :
    isolateHighest 0x0123456789ABCDEF = BitVec.twoPow 64 56 ∧
    dbSlot 0x03F79D71B4CB0A89 (BitVec.twoPow 64 56) = 34 := by decide
/-- R74: the table written out is the one the default constant defines. -/
theorem test_deBruijn_table : (List.range 64).all (fun i => dbIndex defaultBuild ((1 : Half) <<< i) == i) = true := by decide

/-! ### The clauses of the strategy choices, each at a state that meets it (SV vectors) -/

/-- R85, in the order of the clauses of `Obligations.CountStrategyChoice`: SV10, SV9, SV12, SV13, SV11, SV8, SV5, and the
threshold from both sides, SV1 and SV2. -/
theorem test_countStrategy_clauses :
    codeWith { defaultParams with popcntImpl := .hardware, hwPopcntAvail := true } 0b00 0xA = 0b000 ∧
    codeWith { defaultParams with popcntImpl := .hardware } 0b00 0xA = 0b001 ∧
    codeWith { defaultParams with popcntImpl := .swar } 0b00 0 = 0b001 ∧
    codeWith { defaultParams with popcntImpl := .table4, hwPopcntAvail := true } 0b00 1 = 0b010 ∧
    codeWith { defaultParams with popcntImpl := .naive } 0b00 (BitVec.allOnes 128) = 0b011 ∧
    codeWith { defaultParams with adaptive := false, hwPopcntAvail := true } 0b00 (BitVec.allOnes 128) = 0b010 ∧
    codeWith { defaultParams with hwPopcntAvail := true } 0b00 0x7FFF = 0b000 ∧
    codeWith defaultParams 0b00 0x7FFF = 0b010 ∧
    codeWith defaultParams 0b00 0xFFFF = 0b001 := by decide

/-- The threshold at the ends of its range: SV15 and SV16. -/
theorem test_threshold_range :
    codeWith { defaultParams with densityThreshold := 1 } 0b00 1 = 0b001 ∧
    codeWith { defaultParams with densityThreshold := 129 } 0b00 (BitVec.allOnes 128) = 0b010 := by decide

/-- R86, in the order of the clauses of `Obligations.ScanStrategyChoice`; SV21, SV23, SV22, SV20, SV19 and SV18 among them. -/
theorem test_scanStrategy_clauses :
    codeWith { defaultParams with bitscanImpl := .hardware, hwBitscanAvail := true } 0b01 1 = 0b000 ∧
    codeWith { defaultParams with bitscanImpl := .hardware } 0b01 0x10000000000000000 = 0b100 ∧
    codeWith { defaultParams with bitscanImpl := .deBruijn, hwBitscanAvail := true } 0b01 0 = 0b100 ∧
    codeWith { defaultParams with bitscanImpl := .software, hwBitscanAvail := true } 0b10 (BitVec.allOnes 128) =
      0b101 ∧
    codeWith { defaultParams with adaptive := false, hwBitscanAvail := true } 0b10 0x10000000000000000 = 0b100 ∧
    codeWith { defaultParams with hwBitscanAvail := true } 0b01 0x10000000000000000 = 0b000 ∧
    codeWith defaultParams 0b10 0 = 0b100 := by decide

/-! ### Witnesses: a concrete state for the hypotheses of each statement -/

/-- A well-formed build in a state: the one hypothesis of PopcntDrivesSetBitCount, BsfDrivesLowestSetBit,
BsrDrivesHighestSetBit, CountStrategiesAgree, ScanStrategiesAgree, CountReferenceMeaningAndRange,
HardwareRunsOnlyWithItsPrimitive (its clauses below), DeBruijnTableIsTheConstants, EveryEvaluationCompletes (both sides
below), StepDrivesTheBlockFunction, EvaluationsAreIndependent, NoIllegalIffNoReservedRequest and
StrategyCountersSumToEvaluations. -/
theorem test_witness_wellFormedBuild : buildWellFormed State.reset.build = true := by decide

/-- StepRunsDecodedInstruction. -/
theorem test_witness_stepRunsDecoded : decode (fetch State.reset) = .ok (.popcnt 0) ∧ 130 ≤ 136 := ⟨rfl, by decide⟩

/-- DecodeEncodeRoundTrip: a width from 130 on, a word that decodes, and one that does not. -/
theorem test_witness_roundTrip : 130 ≤ 130 ∧ decode 0x200000000000000000000000000000005#130 = .ok (.bsr 5) ∧
    decode 0x300000000000000000000000000000005#130 = .error .reservedOp := ⟨by decide, rfl, rfl⟩

/-- EvaluationChangesOnlyOutputs, for each instruction. -/
theorem test_witness_execNext : ∃ t u v : State, exec (.popcnt 5) State.reset = .next t ∧
    exec (.bsf 5) State.reset = .next u ∧ exec (.bsr 5) State.reset = .next v :=
  ⟨_, _, _, rfl, rfl, rfl⟩

/-- EvaluationChangesOnlyOutputs, RepeatedEvaluationIsIdempotent: a step that answers a next state. -/
theorem test_witness_stepNext : ∃ t : State, step (stateWith defaultParams 0b01 0xA) = .next t := ⟨_, rfl⟩

/-- ResultPortPerOperation, EmptyOperandIsNoError: a state for each clause. -/
theorem test_witness_resultPort :
    buildWellFormed (stateWith defaultParams 0b00 0).build = true ∧
    (stateWith defaultParams 0b00 0).inp = { op := 0b00, operand := 0 } ∧
    (stateWith defaultParams 0b00 (BitVec.allOnes 128)).inp = { op := 0b00, operand := BitVec.allOnes 128 } ∧
    (stateWith defaultParams 0b01 0).inp = { op := 0b01, operand := 0 } ∧
    (stateWith defaultParams 0b01 1).inp = { op := 0b01, operand := 1 } ∧
    (stateWith defaultParams 0b10 0).inp = { op := 0b10, operand := 0 } ∧
    (stateWith defaultParams 0b10 (BitVec.twoPow 128 127)).inp = { op := 0b10, operand := BitVec.twoPow 128 127 } ∧
    (stateWith defaultParams 0b11 1).inp = { op := 0b11, operand := 1 } := by decide

/-- ScansPickTheRightHalf: bits 63 and 64 together, then each alone. -/
theorem test_witness_halves :
    lo (0x18000000000000000 : Operand) ≠ 0 ∧ hi (0x18000000000000000 : Operand) ≠ 0 ∧
    lo (0x10000000000000000 : Operand) = 0 ∧ hi (0x10000000000000000 : Operand) ≠ 0 ∧
    hi (0x8000000000000000 : Operand) = 0 ∧ lo (0x8000000000000000 : Operand) ≠ 0 := by decide

/-- ScansAndCountAgree, ClearingFoundBitTakesOneFromCount: a non-zero operand, a single bit at each end of the range. -/
theorem test_witness_nonZeroOperand :
    buildWellFormed State.reset.build = true ∧ (0xA : Operand) ≠ 0 ∧
    BitVec.twoPow 128 0 ≠ 0 ∧ BitVec.twoPow 128 127 ≠ 0 ∧ 127 < 128 := by decide

/-- NibbleTableInvariant: a build with a wrong entry of `T4`. -/
theorem test_witness_wrongT4 : t4Lookup ({ State.reset with build := badT4 } : State).build.t4 15 ≠ bitCount (15 : BitVec 4) := by
  decide

/-- NibbleLoopEndsWithinBound, NaiveLoopRunsOncePerSetBit: bounds from the stated one on, and a lowest set bit. -/
theorem test_witness_loops : 32 ≤ 32 ∧ 128 ≤ 128 ∧ IsLowestSetBit (0xA : Operand) 1 :=
  ⟨le_refl _, le_refl _, by decide, fun j hj => by match j, hj with | 0, _ => decide⟩

/-- DeBruijnIndexFindsSingleBit, at both ends. -/
theorem test_witness_singleBit : buildWellFormed defaultBuild = true ∧ 0 < 64 ∧ 63 < 64 := by decide

/-- LowestBitIsolation, HighestBitIsolation. -/
theorem test_witness_nonZeroHalf : buildWellFormed defaultBuild = true ∧ (0x8000000000000000 : Half) ≠ 0 := by decide

/-- ScanStrategyChoice: both instructions, and every parameter record of `test_scanStrategy_clauses` is of a well-formed
build. -/
theorem test_witness_scanInstr :
    [{ defaultParams with bitscanImpl := .hardware, hwBitscanAvail := true }, { defaultParams with bitscanImpl := .hardware },
      { defaultParams with bitscanImpl := .deBruijn, hwBitscanAvail := true },
      { defaultParams with bitscanImpl := .software, hwBitscanAvail := true },
      { defaultParams with adaptive := false, hwBitscanAvail := true },
      { defaultParams with hwBitscanAvail := true }, defaultParams].all (fun p => buildWellFormed (buildWith p)) = true ∧
    ((.bsf 7 : Instr) = .bsf 7 ∨ (.bsf 7 : Instr) = .bsr 7) ∧ ((.bsr 7 : Instr) = .bsf 7 ∨ (.bsr 7 : Instr) = .bsr 7) := by
  decide

/-- CountStrategyChoice: every parameter record of `test_countStrategy_clauses` is of a well-formed build. -/
theorem test_witness_countStrategy :
    [{ defaultParams with popcntImpl := .hardware, hwPopcntAvail := true }, { defaultParams with popcntImpl := .hardware },
      { defaultParams with popcntImpl := .swar }, { defaultParams with popcntImpl := .table4, hwPopcntAvail := true },
      { defaultParams with popcntImpl := .naive }, { defaultParams with adaptive := false, hwPopcntAvail := true },
      { defaultParams with hwPopcntAvail := true }, defaultParams].all (fun p => buildWellFormed (buildWith p)) = true ∧
    bitCount (0x7FFF : Operand) = 15 ∧ bitCount (0xFFFF : Operand) = 16 := by decide

/-- HardwareRunsOnlyWithItsPrimitive: a well-formed build that chooses HARDWARE for both families, with both flags set,
and one with both flags false. -/
theorem test_witness_hardware :
    let b := buildWith { defaultParams with hwPopcntAvail := true, hwBitscanAvail := true }
    buildWellFormed b = true ∧ popStrategy b.params 0 = .hardware ∧ scanStrategy b.params = .hardware ∧
    b.params.hwPopcntAvail = true ∧ b.params.hwBitscanAvail = true ∧ buildWellFormed defaultBuild = true ∧
    defaultBuild.params.hwPopcntAvail = false ∧ defaultBuild.params.hwBitscanAvail = false := by decide

/-- PreferredStrategies: the adaptive policy with the primitive, and without it at the threshold. -/
theorem test_witness_preferred :
    defaultParams.bitscanImpl = .auto ∧ defaultParams.popcntImpl = .auto ∧ defaultParams.adaptive = true ∧
    defaultParams.densityThreshold ≤ density 0xFFFF ∧
    ({ defaultParams with hwPopcntAvail := true } : Params).hwPopcntAvail = true := by decide

/-- BuildNeverChangesTheResult: two builds that differ in every choice, with the same inputs. -/
theorem test_witness_twoBuilds :
    let s := stateWith defaultParams 0b10 0xA
    let t := stateWith { defaultParams with hwPopcntAvail := true, hwBitscanAvail := true, archTag := "other", adaptive := false, popcntImpl := .naive, bitscanImpl := .software, densityThreshold := 129 } 0b10 0xA
    buildWellFormed s.build = true ∧ buildWellFormed t.build = true ∧ s.inp = t.inp ∧ s.build ≠ t.build := by decide

/-- BuildNeverChangesTheResult, EveryLegalRecordHasABuild: another constant R73 allows. -/
theorem test_witness_otherConstant :
    checkHolds { defaultBuild with params := { defaultParams with deBruijnConst := 0x022FDD63CC95386D } } .deBruijnConstant =
      true := by decide

/-- EveryLegalRecordHasABuild: the default record. -/
theorem test_witness_legalRecord :
    DistinctIndices defaultParams.deBruijnConst ∧ 1 ≤ defaultParams.densityThreshold ∧ defaultParams.densityThreshold ≤ 129 := by
  refine ⟨fun i j hi hj h => ?_, by decide, by decide⟩
  have hc := (buildWellFormed_iff_checksHold defaultBuild).1 (by decide) .deBruijnConstant
  have hn : ((List.range 64).map fun i => (dbBitSlot defaultParams.deBruijnConst i).toNat).Nodup := of_decide_eq_true hc
  exact List.inj_on_of_nodup_map hn (List.mem_range.2 hi) (List.mem_range.2 hj) (congrArg BitVec.toNat h)

/-- ReservedRequestIsSignalled, EveryEvaluationCompletes: a reserved and a legal request of a well-formed build. -/
theorem test_witness_reservedRequest :
    (stateWith defaultParams 0b11 5).inp.op = 0b11 ∧ (stateWith defaultParams 0b10 5).inp.op ≠ 0b11 ∧
    buildWellFormed (stateWith defaultParams 0b11 5).build = true := by decide

/-- IllFormedBuildsAreRefused: a wrong table, and a primitive under a false flag. -/
theorem test_witness_illFormedBuild :
    buildWellFormed ({ State.reset with build := badT4 } : State).build = false ∧
    buildWellFormed ({ State.reset with build := strayTz } : State).build = false := by decide

/-- StepKeepsInvariant, HostSequencesKeepInvariant: a state that meets the invariant and steps to a next state. -/
theorem test_witness_inv :
    let s : State := { inp := { op := 0b01, operand := 0xA }, build := defaultBuild,
                       out := { result := 1, valid := true, illegal := false, strategy := 0b100 } }
    Inv s ∧ ∃ t : State, step s = .next t :=
  ⟨⟨by decide, by unfold Coherent; decide, by unfold OutputsInRange; decide⟩, _, rfl⟩

end Sys2Proof.Tests
end

section
/-! PROOFS. The frame of one evaluation, the build of a parameter record, and the default build: EvaluationChangesOnlyOutputs, EveryLegalRecordHasABuild, ResetLeavesTheDefaultBuild. -/

namespace Sys2Proof.Machine

open Safety

/-! ### What `exec` and `step` can answer -/

/-- Every arm of `exec` is one evaluation: the arms differ only in the outputs they drive. -/
theorem exists_exec_eq_evaluate (i : Instr) : ∃ f : Build → Outputs, ∀ s, exec i s = evaluate f s := by
  cases i with
  | popcnt a => exact ⟨_, fun _ => exec_popcnt a⟩
  | bsf a => exact ⟨_, fun _ => exec_bsf a⟩
  | bsr a => exact ⟨_, fun _ => exec_bsr a⟩

/-- The frame of `exec`, in the form of the model's own update. -/
theorem exec_eq_next_driveOutputs {i : Instr} {s t : State} (h : exec i s = .next t) :
    ∃ o, t = driveOutputs o s := by
  obtain ⟨f, hf⟩ := exists_exec_eq_evaluate i
  rw [hf] at h
  obtain ⟨-, ht⟩ := evaluate_eq_next_iff.1 h
  exact ⟨f s.build, ht⟩

/-- The inversion lemma of `step`: a next state is that of the instruction the inputs decode to. -/
theorem step_eq_next_iff {s t : State} :
    step s = .next t ↔ ∃ i, decode (fetch s) = .ok i ∧ exec i s = .next t := by
  unfold step
  cases decode (fetch s) with
  | ok i => simp
  | error e => simp [signalReserved_ne_next]

/-! ### The table a constant defines (R73, R74) -/

/-- R73: the check of the constant asks that the 64 indices are pairwise distinct. -/
theorem checkHolds_deBruijnConstant_iff {b : Build} :
    checkHolds b .deBruijnConstant = true ↔ DistinctIndices b.params.deBruijnConst := by
  simp only [checkHolds, decide_eq_true_eq]
  constructor
  · intro hnodup i j hi hj hij
    exact List.inj_on_of_nodup_map hnodup (List.mem_range.2 hi) (List.mem_range.2 hj) (congrArg BitVec.toNat hij)
  · intro hdist
    refine List.nodup_range.map_on fun i hi j hj hij => ?_
    exact hdist i j (List.mem_range.1 hi) (List.mem_range.1 hj) (BitVec.eq_of_toNat_eq hij)

/-- R74: the search that fills entry `k_i` finds `i`, since no other bit has the index `k_i`. -/
theorem find_dbBitSlot {c : Half} (hc : DistinctIndices c) {i : Nat} (hi : i < 64) :
    (List.range 64).find? (fun j => dbBitSlot c j == dbBitSlot c i) = some i := by
  refine find_range_eq_some_iff.2 ⟨hi, beq_self_eq_true _, fun j hj => beq_eq_false_iff_ne.2 fun hslot => ?_⟩
  exact hj.ne (hc j i (hj.trans hi) hi hslot)

/-- R74: the entry at `k_i` is `i`. -/
theorem dbTableOf_dbBitSlot {c : Half} (hc : DistinctIndices c) {i : Nat} (hi : i < 64) :
    (dbTableOf c)[(dbBitSlot c i).toNat]'(dbBitSlot c i).isLt = BitVec.ofNat 6 i := by
  simp [dbTableOf, find_dbBitSlot hc hi]

/-- R75 for a build that has the table its constant defines. -/
theorem dbIndex_shiftLeft_one {b : Build} (htable : b.dbTable = dbTableOf b.params.deBruijnConst)
    (hc : DistinctIndices b.params.deBruijnConst) {i : Nat} (hi : i < 64) : dbIndex b ((1 : Half) <<< i) = i := by
  have hentry := dbTableOf_dbBitSlot hc hi
  simp only [dbBitSlot] at hentry
  simp only [dbIndex, htable, hentry, BitVec.toNat_ofNat]
  exact Nat.mod_eq_of_lt hi

/-! ### The build of a parameter record, and the default build -/

/-- R63 for the entries R62 writes out. -/
theorem t4Rule_entries :
    ((List.range 16).all fun p => t4Lookup t4Rule (BitVec.ofNat 4 p) == pop64 (BitVec.ofNat 64 p)) = true := by decide

/-- R108, check by check: the tables and the primitives of `buildOf` pass by what they are, the constant and the
threshold by hypothesis. -/
theorem checkHolds_buildOf {p : Params} (hc : DistinctIndices p.deBruijnConst) (hlow : 1 ≤ p.densityThreshold)
    (hhigh : p.densityThreshold ≤ 129) (c : BuildCheck) : checkHolds (buildOf p) c = true := by
  cases c with
  | t4Entries => exact t4Rule_entries
  | deBruijnConstant => exact checkHolds_deBruijnConstant_iff.2 hc
  | dbTableEntries =>
    refine List.all_eq_true.2 fun i hi => beq_iff_eq.2 ?_
    exact dbIndex_shiftLeft_one (b := buildOf p) rfl hc (List.mem_range.1 hi)
  | popPrimitive => exact beq_self_eq_true (nativePrimitive p.hwPopcntAvail)
  | tzPrimitive => exact beq_self_eq_true (nativePrimitive p.hwBitscanAvail)
  | lzPrimitive => exact beq_self_eq_true (nativePrimitive p.hwBitscanAvail)
  | densityThreshold => simp [checkHolds, buildOf, hlow, hhigh]

@[simp] theorem buildWellFormed_defaultBuild : buildWellFormed defaultBuild = true := by decide

end Sys2Proof.Machine

namespace Sys2Proof.Proofs

open Sys2Proof.Machine

/-- Settles O8: an evaluation that answers a next state has driven the outputs alone, and a step is the evaluation of the
instruction the inputs decode to. -/
theorem evaluationChangesOnlyOutputs : Obligations.EvaluationChangesOnlyOutputs := by
  have hexec : ∀ (i : Instr) (s t : State), exec i s = .next t → t = { s with out := t.out } := by
    intro i s t h
    obtain ⟨o, rfl⟩ := exec_eq_next_driveOutputs h
    rfl
  refine ⟨hexec, fun s t h => ?_⟩
  obtain ⟨i, -, hi⟩ := step_eq_next_iff.1 h
  exact hexec i s t hi

/-- Settles O35, check by check of R108. -/
theorem everyLegalRecordHasABuild : Obligations.EveryLegalRecordHasABuild := by
  intro p hc hlow hhigh
  exact ⟨(buildWellFormed_iff_checksHold _).2 (checkHolds_buildOf hc hlow hhigh), rfl⟩

/-- Settles O36: the build after reset is the default one, whose checks are evaluated. -/
theorem resetLeavesTheDefaultBuild : Obligations.ResetLeavesTheDefaultBuild :=
  ⟨rfl, rfl, rfl, buildWellFormed_defaultBuild⟩

end Sys2Proof.Proofs
end

section
/-! PROOFS. The bounds of the strategies on the `result` port: no count is above 128 (R41, R57, R61), no index above 127 (R41, R70). -/

namespace Sys2Proof.Machine

open Safety

/-! ### Fields of a half (R61) -/

theorem fieldAt_eq (w k : Nat) (x : Half) : fieldAt w k x = x.toNat / 2 ^ (w * k) % 2 ^ w := by
  simp [fieldAt, Nat.shiftRight_eq_div_pow]

theorem fieldAt_lt (w k : Nat) (x : Half) : fieldAt w k x < 2 ^ w := (x.extractLsb' (w * k) w).isLt

theorem fieldAt_and (w k : Nat) (x m : Half) : fieldAt w k (x &&& m) = fieldAt w k x &&& fieldAt w k m := by
  simp [fieldAt, BitVec.extractLsb'_and]

/-- Shifting right by one field moves every field one place down. -/
theorem fieldAt_ushiftRight (w k : Nat) (x : Half) : fieldAt w k (x >>> w) = fieldAt w (k + 1) x := by
  rw [fieldAt_eq, fieldAt_eq, BitVec.toNat_ushiftRight, Nat.shiftRight_eq_div_pow, Nat.div_div_eq_div_mul, ← pow_add,
    Nat.mul_add_one, Nat.add_comm w]

/-- Shifting left by one field moves every field one place up, and fills the lowest with 0. -/
theorem fieldAt_shiftLeft_zero (w : Nat) (x : Half) : fieldAt w 0 (x <<< w) = 0 := by
  have hbits : (x <<< w).extractLsb' (w * 0) w = 0#w := by
    ext i hi
    simp [hi]
  exact congrArg BitVec.toNat hbits

theorem fieldAt_shiftLeft_succ {w k : Nat} (hk : w * (k + 2) ≤ 64) (x : Half) :
    fieldAt w (k + 1) (x <<< w) = fieldAt w k x := by
  have hbits : (x <<< w).extractLsb' (w * (k + 1)) w = x.extractLsb' (w * k) w := by
    ext i hi
    rw [Nat.mul_add] at hk
    have hin : w * (k + 1) + i < 64 := by rw [Nat.mul_add]; omega
    have hback : w * (k + 1) + i - w = w * k + i := by rw [Nat.mul_add_one]; omega
    have hup : ¬ w * (k + 1) + i < w := by rw [Nat.mul_add_one]; omega
    simp [hin, hup, hback, BitVec.getLsbD_eq_getElem (show w * k + i < 64 by omega)]
  exact congrArg BitVec.toNat hbits

/-- The low half of a field of even width is the even field of half its width. -/
theorem fieldAt_mod (w k : Nat) (x : Half) : fieldAt (2 * w) k x % 2 ^ w = fieldAt w (2 * k) x := by
  rw [fieldAt_eq, fieldAt_eq, Nat.mod_mod_of_dvd _ (pow_dvd_pow 2 (by omega)), Nat.mul_right_comm, Nat.mul_comm w]

/-- Nothing is carried out of the low `k` fields of a sum when no field of it overflows. -/
theorem mod_add_mod_lt_of_fields {w k : Nat} {x y : Half} (h : ∀ j < k, fieldAt w j x + fieldAt w j y < 2 ^ w) :
    x.toNat % 2 ^ (w * k) + y.toNat % 2 ^ (w * k) < 2 ^ (w * k) := by
  induction k with
  | zero => simp [Nat.mod_one]
  | succ k ih =>
    have hlow := ih fun j hj => h j (by omega)
    have hfield := h k (by omega)
    rw [fieldAt_eq, fieldAt_eq] at hfield
    simp only [pow_mul] at hlow hfield ⊢
    rw [Nat.mod_pow_succ, Nat.mod_pow_succ, pow_succ]
    calc
      _ < (2 ^ w) ^ k * (x.toNat / (2 ^ w) ^ k % 2 ^ w + y.toNat / (2 ^ w) ^ k % 2 ^ w + 1) := by linarith
      _ ≤ (2 ^ w) ^ k * 2 ^ w := Nat.mul_le_mul_left _ hfield

/-- Addition is field by field when no field overflows (R61: "no carry crosses a field boundary"). -/
theorem fieldAt_add {w k : Nat} {x y : Half} (hk : w * (k + 1) ≤ 64)
    (h : ∀ j < k + 1, fieldAt w j x + fieldAt w j y < 2 ^ w) :
    fieldAt w k (x + y) = fieldAt w k x + fieldAt w k y := by
  have hcarry := mod_add_mod_lt_of_fields fun j hj => h j (Nat.lt_succ_of_lt hj)
  have hfield := h k k.lt_succ_self
  have hwidth : 2 ^ 64 = 2 ^ (w * k) * (2 ^ w * 2 ^ (64 - w * (k + 1))) := by
    rw [← pow_add, ← pow_add]
    congr 1
    rw [Nat.mul_add_one] at hk ⊢
    omega
  rw [fieldAt_eq, fieldAt_eq] at hfield ⊢
  rw [fieldAt_eq, BitVec.toNat_add, hwidth, Nat.mod_mul_right_div_self, Nat.mod_mod_of_dvd _ (Nat.dvd_mul_right _ _),
    Nat.add_div_eq_of_add_mod_lt hcarry, Nat.add_mod_of_add_mod_lt hfield]

theorem fieldAt_and_mask {w k : Nat} {m : Half} (hm : fieldAt (2 * w) k m = 2 ^ w - 1) (x : Half) :
    fieldAt (2 * w) k (x &&& m) = fieldAt w (2 * k) x := by
  rw [fieldAt_and, hm, Nat.and_two_pow_sub_one_eq_mod, fieldAt_mod]

/-- The shape of the first two SWAR stages: under a mask of the low half of every field, adding the fields' high halves
to their low halves. -/
theorem fieldAt_pairSum {w k : Nat} {x m : Half} (hw : 0 < w) (hk : 2 * w * (k + 1) ≤ 64)
    (hm : ∀ j < k + 1, fieldAt (2 * w) j m = 2 ^ w - 1) :
    fieldAt (2 * w) k ((x &&& m) + ((x >>> w) &&& m)) = fieldAt w (2 * k) x + fieldAt w (2 * k + 1) x := by
  have hdouble : 2 ^ w + 2 ^ w ≤ 2 ^ (2 * w) := by
    rw [← Nat.two_mul, ← pow_succ']
    exact Nat.pow_le_pow_right (by omega) (by omega)
  rw [fieldAt_add hk, fieldAt_and_mask (hm k k.lt_succ_self), fieldAt_and_mask (hm k k.lt_succ_self),
    fieldAt_ushiftRight]
  intro j hj
  rw [fieldAt_and_mask (hm j hj), fieldAt_and_mask (hm j hj)]
  have := fieldAt_lt w (2 * j) x
  have := fieldAt_lt w (2 * j) (x >>> w)
  omega

/-! ### The SWAR stages (R60, R61) -/

/-- The odd bits of a half are those the first stage moves down, moved up again. -/
theorem shiftLeft_oddBits (x : Half) : ((x >>> 1) &&& 0x5555555555555555) <<< 1 = x &&& ~~~0x5555555555555555 := by
  have hmask : (~~~0x5555555555555555 : Half) = 0x5555555555555555 <<< 1 := by decide
  rw [hmask, BitVec.shiftLeft_and_distrib]
  ext i hi
  cases i with
  | zero => simp
  | succ i => simp [BitVec.getElem_shiftLeft, Nat.add_comm, BitVec.getLsbD_eq_getElem hi]

theorem and_add_and_not (x m : Half) : (x &&& m) + (x &&& ~~~m) = x := by
  rw [BitVec.add_eq_or_of_and_eq_zero, ← BitVec.and_or_distrib_left, BitVec.or_not_self, BitVec.and_allOnes]
  ext i hi
  cases h : m[i] <;> simp [h]

/-- The first stage in the shape of the second: `x` is its even bits and twice its odd ones, of which it takes one. -/
theorem swarPairs_eq_add (x : Half) :
    swarPairs x = (x &&& 0x5555555555555555) + ((x >>> 1) &&& 0x5555555555555555) := by
  rw [swarPairs, BitVec.sub_eq_iff_eq_add, BitVec.add_assoc, ← BitVec.mul_two]
  calc
    x = (x &&& 0x5555555555555555) + (x &&& ~~~0x5555555555555555) := (and_add_and_not x _).symm
    _ = _ := by
      rw [← shiftLeft_oddBits, BitVec.shiftLeft_eq_mul_twoPow]
      rfl

theorem fieldAt_swarPairs {k : Nat} (hk : k < 32) (x : Half) :
    fieldAt 2 k (swarPairs x) = fieldAt 1 (2 * k) x + fieldAt 1 (2 * k + 1) x := by
  have hm : ∀ j < 32, fieldAt 2 j 0x5555555555555555 = 1 := by decide
  rw [swarPairs_eq_add]
  exact fieldAt_pairSum (w := 1) (by omega) (by omega) fun j hj => hm j (by omega)

theorem fieldAt_swarNibbles {k : Nat} (hk : k < 16) (x : Half) :
    fieldAt 4 k (swarNibbles x) = fieldAt 2 (2 * k) x + fieldAt 2 (2 * k + 1) x := by
  have hm : ∀ j < 16, fieldAt 4 j 0x3333333333333333 = 3 := by decide
  exact fieldAt_pairSum (w := 2) (by omega) (by omega) fun j hj => hm j (by omega)

theorem fieldAt_swarPairs_le {k : Nat} (hk : k < 32) (x : Half) : fieldAt 2 k (swarPairs x) ≤ 2 := by
  have h := fieldAt_swarPairs hk x
  simp only [fieldAt_eq 1] at h
  omega

theorem fieldAt_swarNibbles_swarPairs_le {k : Nat} (hk : k < 16) (x : Half) :
    fieldAt 4 k (swarNibbles (swarPairs x)) ≤ 4 := by
  have h := fieldAt_swarNibbles hk (swarPairs x)
  have := fieldAt_swarPairs_le (k := 2 * k) (by omega) x
  have := fieldAt_swarPairs_le (k := 2 * k + 1) (by omega) x
  omega

/-- The third stage adds before it masks: with nibbles of at most 4, no sum of two leaves its nibble. -/
theorem fieldAt_swarBytes {k : Nat} (hk : k < 8) {x : Half} (hx : ∀ j < 16, fieldAt 4 j x ≤ 4) :
    fieldAt 8 k (swarBytes x) = fieldAt 4 (2 * k) x + fieldAt 4 (2 * k + 1) x := by
  have hm : ∀ j < 8, fieldAt 8 j 0x0F0F0F0F0F0F0F0F = 15 := by decide
  rw [swarBytes, fieldAt_and_mask (w := 4) (hm k hk), fieldAt_add (by omega), fieldAt_ushiftRight]
  intro j hj
  rw [fieldAt_ushiftRight]
  have := hx j (by omega)
  have := hx (j + 1) (by omega)
  omega

theorem fieldAt_swarBytes_le {k : Nat} (hk : k < 8) {x : Half} (hx : ∀ j < 16, fieldAt 4 j x ≤ 4) :
    fieldAt 8 k (swarBytes x) ≤ 8 := by
  rw [fieldAt_swarBytes hk hx]
  have := hx (2 * k) (by omega)
  have := hx (2 * k + 1) (by omega)
  omega

/-- The multiplier of R60 with `n + 1` of its eight bytes of 1, built up as Horner's rule does. -/
def byteOnes : Nat → Half
  | 0 => 1#64
  | n + 1 => byteOnes n <<< 8 + 1#64

theorem mul_byteOnes_succ (x : Half) (n : Nat) : x * byteOnes (n + 1) = (x * byteOnes n) <<< 8 + x := by
  rw [byteOnes, BitVec.mul_add, BitVec.mul_one, BitVec.shiftLeft_eq_mul_twoPow, BitVec.shiftLeft_eq_mul_twoPow,
    BitVec.mul_assoc]

/-- Multiplying by `byteOnes n` leaves in each byte a sum of at most `n + 1` bytes. -/
theorem fieldAt_mul_byteOnes_le {x : Half} (hx : ∀ j < 8, fieldAt 8 j x ≤ 8) {n : Nat} (hn : n < 8) :
    ∀ j < 8, fieldAt 8 j (x * byteOnes n) ≤ 8 * (n + 1) := by
  induction n with
  | zero =>
    rw [byteOnes, BitVec.mul_one]
    exact hx
  | succ n ih =>
    have hmoved : ∀ j < 8, fieldAt 8 j ((x * byteOnes n) <<< 8) ≤ 8 * (n + 1) := by
      intro j hj
      cases j with
      | zero => exact (fieldAt_shiftLeft_zero 8 _).trans_le (Nat.zero_le _)
      | succ j =>
        rw [fieldAt_shiftLeft_succ (by omega)]
        exact ih (by omega) j (by omega)
    have hsum : ∀ j < 8, fieldAt 8 j ((x * byteOnes n) <<< 8) + fieldAt 8 j x ≤ 8 * (n + 1 + 1) :=
      fun j hj => Nat.add_le_add (hmoved j hj) (hx j hj)
    intro j hj
    rw [mul_byteOnes_succ, fieldAt_add (by omega) fun i hi => (hsum i (by omega)).trans_lt (by omega)]
    exact hsum j hj

/-- The multiplication collects the eight bytes in the top one, which holds a sum of at most 64. -/
theorem toNat_swarByteSum_le {x : Half} (hx : ∀ j < 8, fieldAt 8 j x ≤ 8) : (swarByteSum x).toNat ≤ 64 := by
  have htop : (swarByteSum x).toNat = fieldAt 8 7 (x * byteOnes 7) := by
    have hlt := (x * byteOnes 7).isLt
    rw [fieldAt_eq, Nat.mod_eq_of_lt (by omega), ← Nat.shiftRight_eq_div_pow]
    rfl
  exact htop ▸ fieldAt_mul_byteOnes_le hx (by omega) 7 (by omega)

theorem swar64_le (x : Half) : swar64 x ≤ 64 :=
  toNat_swarByteSum_le fun _ hk => fieldAt_swarBytes_le hk fun _ hj => fieldAt_swarNibbles_swarPairs_le hj x

/-! ### Every count is at most 128 (R41, R57) -/

theorem t4Lookup_le {b : Build} (hb : buildWellFormed b = true) (p : BitVec 4) : t4Lookup b.t4 p ≤ 4 := by
  have hentries := (buildWellFormed_iff_checksHold b).1 hb .t4Entries
  have hp : t4Lookup b.t4 (BitVec.ofNat 4 p.toNat) = pop64 (BitVec.ofNat 64 p.toNat) :=
    beq_iff_eq.1 (List.all_eq_true.1 hentries p.toNat (List.mem_range.2 p.isLt))
  have hpop : ∀ n < 16, pop64 (BitVec.ofNat 64 n) ≤ 4 := by decide
  rw [BitVec.ofNat_toNat, BitVec.setWidth_eq] at hp
  exact hp ▸ hpop p.toNat p.isLt

theorem table4Loop_le {t4 : Vector (BitVec 3) 16} (ht : ∀ p, t4Lookup t4 p ≤ 4) (n : Nat) (v : Operand) (c : Nat) :
    table4Loop t4 n v c ≤ c + 4 * n := by
  induction n generalizing v c with
  | zero => exact le_refl c
  | succ n ih =>
    rw [table4Loop]
    split
    · omega
    · have := ih (v >>> 4) (c + t4Lookup t4 (v.extractLsb' 0 4))
      have := ht (v.extractLsb' 0 4)
      omega

theorem naiveLoop_le (n : Nat) (v : Operand) (c : Nat) : naiveLoop n v c ≤ c + n := by
  induction n generalizing v c with
  | zero => exact le_refl c
  | succ n ih =>
    rw [naiveLoop]
    split
    · omega
    · have := ih (v &&& (v - 1)) (c + 1)
      omega

theorem popBy_le {b : Build} (hb : buildWellFormed b = true) (s : PopStrategy) (a : Operand) : popBy b s a ≤ 128 := by
  cases s with
  | hardware => exact Nat.add_le_add (bitSum_le 64 (lo a)) (bitSum_le 64 (hi a))
  | swar => exact Nat.add_le_add (swar64_le (lo a)) (swar64_le (hi a))
  | table4 => exact (table4Loop_le (t4Lookup_le hb) 32 a 0).trans (by omega)
  | naive => exact (naiveLoop_le 128 a 0).trans (by omega)

/-! ### Every index is at most 127 (R41, R70) -/

/-- A non-zero half has a set bit below 64. -/
theorem tz64_le_of_ne_zero {x : Half} (hx : x ≠ 0) : tz64 x ≤ 63 := by
  unfold tz64
  cases h : leastSetBit 64 x with
  | none => exact absurd (BitVec.eq_of_getLsbD_eq fun i hi => by simp [leastSetBit_eq_none_iff.1 h i hi]) hx
  | some i => exact Nat.le_of_lt_succ (leastSetBit_eq_some_iff.1 h).1

theorem hwTz64_le_of_ne_zero {x : Half} (hx : x ≠ 0) : hwTz64 x ≤ 63 := by
  rw [hwTz64, if_neg hx]
  exact tz64_le_of_ne_zero hx

theorem dbIndex_le (b : Build) (m : Half) : dbIndex b m ≤ 63 :=
  Nat.le_of_lt_succ (b.dbTable[(dbSlot b.params.deBruijnConst m).toNat]'(dbSlot b.params.deBruijnConst m).isLt).isLt

theorem bsfBy_le {b : Build} {s : ScanStrategy} {a : Operand} {i : Nat} (h : bsfBy b s a = some i) : i ≤ 127 := by
  cases s with
  | hardware =>
    simp only [bsfBy, bsfHardware] at h
    split_ifs at h with hlo hhi <;> cases h
    · exact (hwTz64_le_of_ne_zero hlo).trans (by omega)
    · exact Nat.add_le_add_left (hwTz64_le_of_ne_zero hhi) 64
  | deBruijn =>
    simp only [bsfBy, bsfDeBruijn] at h
    split_ifs at h <;> cases h
    · exact (dbIndex_le b _).trans (by omega)
    · exact Nat.add_le_add_left (dbIndex_le b _) 64
  | software =>
    obtain ⟨-, hlt, -⟩ := scanUp_eq_some_iff.1 h
    omega

theorem bsrBy_le {b : Build} {s : ScanStrategy} {a : Operand} {i : Nat} (h : bsrBy b s a = some i) : i ≤ 127 := by
  cases s with
  | hardware =>
    simp only [bsrBy, bsrHardware] at h
    split_ifs at h <;> cases h <;> omega
  | deBruijn =>
    simp only [bsrBy, bsrDeBruijn] at h
    split_ifs at h <;> cases h
    · exact Nat.add_le_add_left (dbIndex_le b _) 64
    · exact (dbIndex_le b _).trans (by omega)
  | software =>
    rw [bsrBy, bsrSoftware, scanDown_eq_greatestSetBit] at h
    exact Nat.le_of_lt_succ (greatestSetBit_eq_some_iff.1 h).1

end Sys2Proof.Machine
end

section
/-! PROOFS. One evaluation as `F_P`, the invariant, and the host's sequences: StepKeepsInvariant, HostSequencesKeepInvariant, StepDrivesTheBlockFunction, EvaluationsAreIndependent, RepeatedEvaluationIsIdempotent, NoIllegalIffNoReservedRequest, StepRunsDecodedInstruction, InvariantHoldsAtReset. -/

namespace Sys2Proof.Machine

open Safety

/-! ### Request words (R38, R39) -/

@[simp] theorem opField_requestWord (op : OpCode) (a : Operand) : opField (requestWord op a) = op :=
  BitVec.extractLsb'_append_eq_left

@[simp] theorem operandField_requestWord (op : OpCode) (a : Operand) : operandField (requestWord op a) = a :=
  BitVec.extractLsb'_append_eq_right

@[simp] theorem requestWord_fields (w : RequestWord) : requestWord (opField w) (operandField w) = w :=
  (BitVec.extractLsb'_append_extractLsb'_eq_extractLsb' rfl).trans BitVec.extractLsb'_eq_self

@[simp] theorem decode_requestWord_popcnt (a : Operand) : decode (requestWord opPopcnt a) = .ok (.popcnt a) := by
  simp [decode]

@[simp] theorem decode_requestWord_bsf (a : Operand) : decode (requestWord opBsf a) = .ok (.bsf a) := by
  simp [decode, opBsf, opPopcnt]

@[simp] theorem decode_requestWord_bsr (a : Operand) : decode (requestWord opBsr a) = .ok (.bsr a) := by
  simp [decode, opBsr, opBsf, opPopcnt]

@[simp] theorem decode_requestWord_reserved (a : Operand) :
    decode (requestWord opReserved a) = .error .reservedOp := by
  simp [decode, opReserved, opBsr, opBsf, opPopcnt]

theorem decode_encode (i : Instr) : decode (encode i) = .ok i := by
  cases i with
  | popcnt a => exact decode_requestWord_popcnt a
  | bsf a => exact decode_requestWord_bsf a
  | bsr a => exact decode_requestWord_bsr a

/-- Driving a word on the inputs and fetching it again gives the word, at any table width that holds all its bits. -/
theorem fetch_withFetchWord (s : State) (w : RequestWord) {nbits : Nat} (h : 130 ≤ nbits) :
    fetch (s.withFetchWord nbits w.toNat) = w := by
  have hword : BitVec.ofNat 130 (w.toNat % 2 ^ nbits) = w := by
    rw [Nat.mod_eq_of_lt (w.isLt.trans_le (Nat.pow_le_pow_right (by omega) h)), BitVec.ofNat_toNat, BitVec.setWidth_eq]
  rw [State.withFetchWord, hword, fetch_drive]
  exact requestWord_fields w

theorem step_of_decode_ok {s : State} {i : Instr} (h : decode (fetch s) = .ok i) : step s = exec i s := by
  rw [step, h]

/-! ### `F_P` on each value of `op` (R43) -/

/-- The four values of `op` (R39). -/
theorem opCode_cases (op : OpCode) : op = opPopcnt ∨ op = opBsf ∨ op = opBsr ∨ op = opReserved := by
  revert op
  decide

/-- What a step is, for every build: the reserved `op` is signalled, and every other request evaluates `F_P` of the
inputs. -/
theorem step_eq (s : State) :
    step s = if s.inp.op = opReserved then signalReserved s else evaluate (fun b => evalFunction b s.inp) s := by
  obtain ⟨⟨op, a⟩, out, b⟩ := s
  rcases opCode_cases op with rfl | rfl | rfl | rfl
  · rw [step, fetch, decode_requestWord_popcnt, if_neg (show opPopcnt ≠ opReserved by decide)]
    exact exec_popcnt a
  · rw [step, fetch, decode_requestWord_bsf, if_neg (show opBsf ≠ opReserved by decide)]
    exact exec_bsf a
  · rw [step, fetch, decode_requestWord_bsr, if_neg (show opBsr ≠ opReserved by decide)]
    exact exec_bsr a
  · rw [step, fetch, decode_requestWord_reserved, if_pos rfl]

/-- The inversion lemma of `step` in terms of `F_P`. -/
theorem step_eq_next_iff_evalFunction {s t : State} :
    step s = .next t ↔
      s.inp.op ≠ opReserved ∧ buildWellFormed s.build = true ∧ t = driveOutputs (evalFunction s.build s.inp) s := by
  rw [step_eq]
  split <;> rename_i hop
  · simp [hop, signalReserved_ne_next]
  · simp [hop, evaluate_eq_next_iff]

theorem evalFunction_of_reserved {i : Inputs} (b : Build) (h : i.op = opReserved) : evalFunction b i = reservedOutputs := by
  obtain ⟨op, a⟩ := i
  subst h
  rfl

/-- R16, R43: the outputs sampled after a step of a well-formed build are `F_P` of the inputs, the reserved `op`'s too. -/
theorem sampled_step {s : State} (hb : buildWellFormed s.build = true) :
    sampled (step s) = some (evalFunction s.build s.inp) := by
  rw [step_eq]
  split <;> rename_i hop
  · rw [signalReserved_of_wellFormed hb, sampled_reserved, evalFunction_of_reserved _ hop]
  · rw [evaluate_of_wellFormed hb, sampled_next, driveOutputs_out]

/-! ### The outputs of `F_P` are in the range of the operation (R41, R42) -/

theorem toNat_zext8_le (n : Nat) : (zext8 n).toNat ≤ n := by
  rw [zext8, BitVec.toNat_ofNat]
  exact Nat.mod_le n _

theorem popCode_le (s : PopStrategy) : (popCode s).toNat ≤ 3 := by
  cases s <;> decide

theorem scanCode_mem (s : ScanStrategy) : scanCode s = 0b000 ∨ scanCode s = 0b100 ∨ scanCode s = 0b101 := by
  cases s <;> decide

theorem countOutputs_inRange {c : Nat} {code : BitVec 3} (hc : c ≤ 128) (hcode : code.toNat ≤ 3) :
    OutputsInRange opPopcnt (countOutputs c code) := by
  have hresult : (zext8 c).toNat ≤ 128 := (toNat_zext8_le c).trans hc
  simp [OutputsInRange, countOutputs, hresult, hcode, opPopcnt, opBsf, opBsr, opReserved]

theorem optionOutputs_inRange {op : OpCode} {r : Option Nat} {code : BitVec 3} (hop : op = opBsf ∨ op = opBsr)
    (hr : ∀ i, r = some i → i ≤ 127) (hcode : code = 0b000 ∨ code = 0b100 ∨ code = 0b101) :
    OutputsInRange op (optionOutputs r code) := by
  have hpopcnt : op ≠ opPopcnt := by rcases hop with rfl | rfl <;> decide
  have hreserved : op ≠ opReserved := by rcases hop with rfl | rfl <;> decide
  refine ⟨by simp [optionOutputs, hreserved], fun h => absurd h hpopcnt, fun _ => ?_, fun h => absurd h hreserved⟩
  cases r with
  | none => exact ⟨Nat.zero_le _, fun _ => rfl, hcode⟩
  | some i => exact ⟨(toNat_zext8_le i).trans (hr i rfl), fun h => absurd h Bool.noConfusion, hcode⟩

theorem reservedOutputs_inRange : OutputsInRange opReserved reservedOutputs := by
  unfold OutputsInRange
  decide

/-- R41, R42: whatever the request, `F_P` of a well-formed build is in the range of the operation. -/
theorem evalFunction_inRange {b : Build} (hb : buildWellFormed b = true) (i : Inputs) :
    OutputsInRange i.op (evalFunction b i) := by
  obtain ⟨op, a⟩ := i
  rcases opCode_cases op with rfl | rfl | rfl | rfl
  · exact countOutputs_inRange (popBy_le hb _ a) (popCode_le _)
  · exact optionOutputs_inRange (.inl rfl) (fun _ => bsfBy_le) (scanCode_mem _)
  · exact optionOutputs_inRange (.inr rfl) (fun _ => bsrBy_le) (scanCode_mem _)
  · exact reservedOutputs_inRange

/-- In a well-formed build the range clauses of the invariant follow from the first: the outputs are `F_P` of the
inputs. -/
theorem inv_of_coherent {s : State} (hb : buildWellFormed s.build = true) (hs : Coherent s) : Inv s :=
  ⟨hb, hs, hs ▸ evalFunction_inRange hb s.inp⟩

/-! ### Sequences of evaluations (R17, R30) -/

/-- The state after one request of a well-formed build: the inputs driven, and `F_P` of them on the outputs. -/
def afterRequest (s : State) (i : Inputs) : State := driveOutputs (evalFunction s.build i) (drive i s)

@[simp] theorem afterRequest_build (s : State) (i : Inputs) : (afterRequest s i).build = s.build := rfl

theorem observe_eq_afterRequest {s : State} (hb : buildWellFormed s.build = true) (i : Inputs) :
    observe i s = some (evalFunction s.build i, afterRequest s i) :=
  observe_eq_some_iff.2 ⟨sampled_step (s := drive i s) hb, rfl⟩

theorem foldl_afterRequest_build (reqs : List Inputs) (s : State) : (reqs.foldl afterRequest s).build = s.build := by
  induction reqs generalizing s with
  | nil => rfl
  | cons i is ih => exact ih (afterRequest s i)

/-- R17: a sequence of a well-formed build runs to its end, and each request is answered by `F_P` of itself alone. -/
theorem observeAll_eq {s : State} (hb : buildWellFormed s.build = true) (reqs : List Inputs) :
    observeAll reqs s = some (reqs.map (evalFunction s.build), reqs.foldl afterRequest s) := by
  induction reqs generalizing s with
  | nil => rfl
  | cons i is ih =>
    have hrest := ih (s := afterRequest s i) hb
    simp only [observeAll, observe_eq_afterRequest hb, hrest, Option.map_some, afterRequest_build, List.map_cons,
      List.foldl_cons]

theorem inv_afterRequest {s : State} (hs : Inv s) (i : Inputs) : Inv (afterRequest s i) :=
  inv_of_coherent hs.1 rfl

theorem inv_foldl_afterRequest {s : State} (hs : Inv s) (reqs : List Inputs) : Inv (reqs.foldl afterRequest s) := by
  induction reqs generalizing s with
  | nil => exact hs
  | cons i is ih => exact ih (inv_afterRequest hs i)

/-- R24: the outputs of a sequence have no `illegal = 1` exactly when no request is reserved. -/
theorem noIllegal_map_evalFunction_iff {b : Build} (hb : buildWellFormed b = true) (reqs : List Inputs) :
    noIllegal (reqs.map (evalFunction b)) = true ↔ ∀ i ∈ reqs, legalRequest i = true := by
  have hrequest : ∀ i : Inputs, (evalFunction b i).illegal = false ↔ legalRequest i = true := by
    intro i
    rw [← Bool.not_eq_true, (evalFunction_inRange hb i).1, legalRequest, bne_iff_ne]
  simp [noIllegal, hrequest]

end Sys2Proof.Machine

namespace Sys2Proof.Proofs

open Sys2Proof.Machine Sys2Proof.Safety

/-- Settles O39: a step that answers a next state has driven `F_P` of the inputs, which is in range. -/
theorem stepKeepsInvariant : Obligations.StepKeepsInvariant := by
  rintro s t - hstep
  obtain ⟨-, hb, rfl⟩ := step_eq_next_iff_evalFunction.1 hstep
  exact inv_of_coherent hb rfl

/-- Settles O40, by induction on the requests. -/
theorem hostSequencesKeepInvariant : Obligations.HostSequencesKeepInvariant := by
  intro reqs s hs
  exact ⟨_, _, observeAll_eq hs.1 reqs, inv_foldl_afterRequest hs reqs⟩

/-- Settles O38. -/
theorem stepDrivesTheBlockFunction : Obligations.StepDrivesTheBlockFunction :=
  fun _ hb => sampled_step hb

/-- Settles O41: the outputs and the last state of a sequence, written out. -/
theorem evaluationsAreIndependent : Obligations.EvaluationsAreIndependent := by
  intro reqs s hb
  exact ⟨_, observeAll_eq hb reqs, foldl_afterRequest_build reqs s⟩

/-- Settles O42: driving the outputs leaves the inputs and the build, which are all a step reads. -/
theorem repeatedEvaluationIsIdempotent : Obligations.RepeatedEvaluationIsIdempotent := by
  intro s t hstep
  obtain ⟨hop, hb, rfl⟩ := step_eq_next_iff_evalFunction.1 hstep
  exact step_eq_next_iff_evalFunction.2 ⟨hop, hb, rfl⟩

/-- Settles O43: each request has one output record, `F_P` of it. -/
theorem noIllegalIffNoReservedRequest : Obligations.NoIllegalIffNoReservedRequest := by
  intro reqs s hb
  exact ⟨_, _, observeAll_eq hb reqs, List.length_map _, noIllegal_map_evalFunction_iff hb reqs⟩

/-- Settles O4: a word driven on the inputs is the word fetched, and it decodes to the instruction it encodes. -/
theorem stepRunsDecodedInstruction : Obligations.StepRunsDecodedInstruction := by
  refine ⟨fun s i => step_of_decode_ok, fun s i nbits hwidth => ?_, fun s nbits w => ⟨rfl, rfl⟩⟩
  exact step_of_decode_ok (by rw [fetch_withFetchWord s _ hwidth, decode_encode])

/-- Settles O37: the outputs at reset are `F_P` of the inputs by definition, and the default build is well formed. -/
theorem invariantHoldsAtReset : Obligations.InvariantHoldsAtReset :=
  inv_of_coherent buildWellFormed_defaultBuild rfl

end Sys2Proof.Proofs
end

section
/-! PROOFS. The encoding: DecodeEncodeRoundTrip, WrittenWordsDecode, RequestWordIsConcatenation. -/

namespace Sys2Proof.Machine

/-- R38: the word as a number, `op` above the 128 bits of the operand. -/
theorem toNat_requestWord (op : OpCode) (a : Operand) : (requestWord op a).toNat = op.toNat * 2 ^ 128 + a.toNat := by
  rw [requestWord, BitVec.toNat_append, ← Nat.shiftLeft_add_eq_or_of_lt a.isLt, Nat.shiftLeft_eq]

/-- The inverse of `decode_encode`: a word that decodes is the encoding of what it decodes to. -/
theorem encode_of_decode_ok {w : RequestWord} {i : Instr} (h : decode w = .ok i) : encode i = w := by
  rw [← requestWord_fields w] at h ⊢
  generalize operandField w = a at h ⊢
  rcases opCode_cases (opField w) with hop | hop | hop | hop <;> rw [hop] at h ⊢
  · cases (decode_requestWord_popcnt a).symm.trans h
    rfl
  · cases (decode_requestWord_bsf a).symm.trans h
    rfl
  · cases (decode_requestWord_bsr a).symm.trans h
    rfl
  · cases (decode_requestWord_reserved a).symm.trans h

/-- R44: the words that decode are those whose `op` is not the reserved one. -/
theorem requestWellFormed_of_decode_ok {w : RequestWord} {i : Instr} (h : decode w = .ok i) :
    requestWellFormed w = true := by
  refine bne_iff_ne.2 fun hop => ?_
  rw [← requestWord_fields w, hop, decode_requestWord_reserved] at h
  cases h

/-- R44: `op = 0b11` is the only encoding that is rejected. -/
theorem decode_eq_reservedOp_iff (w : RequestWord) : decode w = .error .reservedOp ↔ opField w = opReserved := by
  constructor
  · intro h
    unfold decode at h
    split_ifs at h with hpopcnt hbsf hbsr
    rcases opCode_cases (opField w) with hop | hop | hop | hop
    · exact absurd hop hpopcnt
    · exact absurd hop hbsf
    · exact absurd hop hbsr
    · exact hop
  · intro hop
    rw [← requestWord_fields w, hop]
    exact decode_requestWord_reserved _

/-- A request word has no bit above bit 129, so `decodeNat` reads it as `decode` does. -/
theorem decodeNat_toNat (w : RequestWord) : decodeNat w.toNat = decode w := by
  rw [decodeNat, isRequestWord, if_pos (decide_eq_true w.isLt), BitVec.ofNat_toNat, BitVec.setWidth_eq]

/-- Padding a word with zeros to a wider table width does not change what it decodes to. -/
theorem decodeTableWord_toNat {w : RequestWord} {i : Instr} (h : decode w = .ok i) {nbits : Nat} (hwidth : 130 ≤ nbits) :
    decodeTableWord nbits w.toNat = some i := by
  have hpad : w.toNat % 2 ^ nbits = w.toNat :=
    Nat.mod_eq_of_lt (w.isLt.trans_le (Nat.pow_le_pow_right (by omega) hwidth))
  rw [decodeTableWord, hpad, decodeNat_toNat, h]

/-- R40: there is no operand an instruction may not have. -/
theorem instrWellFormed_eq_true (i : Instr) : instrWellFormed i = true := by
  cases i with
  | popcnt a => rfl
  | bsf a => rfl
  | bsr a => rfl

end Sys2Proof.Machine

namespace Sys2Proof.Proofs

open Sys2Proof.Machine

/-- Settles O1: `decode` and `encode` undo each other, and the words left out are those of the reserved `op`. -/
theorem decodeEncodeRoundTrip : Obligations.DecodeEncodeRoundTrip := by
  refine ⟨fun i => ?_, fun w i => encode_of_decode_ok, decode_eq_reservedOp_iff⟩
  have hdecode := decode_encode i
  exact ⟨instrWellFormed_eq_true i, hdecode, requestWellFormed_of_decode_ok hdecode,
    fun nbits => decodeTableWord_toNat hdecode⟩

/-- Settles O2: each word is `requestWord` of its two fields, which decodes by the row of its `op`. -/
theorem writtenWordsDecode : Obligations.WrittenWordsDecode :=
  ⟨decode_requestWord_popcnt (BitVec.allOnes 128), decode_requestWord_bsf 0b1010, decode_requestWord_bsr 0b1010,
    decode_requestWord_reserved 0b1010⟩

/-- Settles O3. -/
theorem requestWordIsConcatenation : Obligations.RequestWordIsConcatenation :=
  fun op a => ⟨toNat_requestWord op a, opField_requestWord op a, operandField_requestWord op a⟩

end Sys2Proof.Proofs
end

section
/-! PROOFS. The reference functions of R12 as statements about set bits, and the bits of the two halves (R10). -/

namespace Sys2Proof.Machine

open Safety

/-! ### The lowest and the highest set bit -/

theorem eq_zero_iff_getLsbD {w : Nat} {x : BitVec w} : (∀ i < w, x.getLsbD i = false) ↔ x = 0 := by
  constructor
  · intro h
    exact BitVec.eq_of_getLsbD_eq fun i hi => (h i hi).trans BitVec.getLsbD_zero.symm
  · rintro rfl i -
    exact BitVec.getLsbD_zero

theorem leastSetBit_width_eq_none_iff {w : Nat} {x : BitVec w} : leastSetBit w x = none ↔ x = 0 :=
  leastSetBit_eq_none_iff.trans eq_zero_iff_getLsbD

theorem greatestSetBit_width_eq_none_iff {w : Nat} {x : BitVec w} : greatestSetBit w x = none ↔ x = 0 :=
  greatestSetBit_eq_none_iff.trans eq_zero_iff_getLsbD

/-- Over the whole width the bound of the search says nothing: a set bit lies below it. -/
theorem leastSetBit_width_eq_some_iff {w i : Nat} {x : BitVec w} : leastSetBit w x = some i ↔ IsLowestSetBit x i :=
  leastSetBit_eq_some_iff.trans (and_iff_right_of_imp fun h => BitVec.lt_of_getLsbD h.1)

theorem greatestSetBit_width_eq_some_iff {w i : Nat} {x : BitVec w} :
    greatestSetBit w x = some i ↔ IsHighestSetBit x i := by
  rw [greatestSetBit_eq_some_iff]
  constructor
  · rintro ⟨-, hset, habove⟩
    refine ⟨hset, fun j hj => ?_⟩
    rcases Nat.lt_or_ge j w with hjw | hjw
    · exact habove j hj hjw
    · exact BitVec.getLsbD_of_ge x j hjw
  · rintro ⟨hset, habove⟩
    exact ⟨BitVec.lt_of_getLsbD hset, hset, fun j hj _ => habove j hj⟩

theorem exists_isLowestSetBit {w : Nat} {x : BitVec w} (hx : x ≠ 0) : ∃ i, IsLowestSetBit x i := by
  obtain ⟨i, hi⟩ := Option.ne_none_iff_exists'.1 (mt leastSetBit_width_eq_none_iff.1 hx)
  exact ⟨i, leastSetBit_width_eq_some_iff.1 hi⟩

theorem exists_isHighestSetBit {w : Nat} {x : BitVec w} (hx : x ≠ 0) : ∃ i, IsHighestSetBit x i := by
  obtain ⟨i, hi⟩ := Option.ne_none_iff_exists'.1 (mt greatestSetBit_width_eq_none_iff.1 hx)
  exact ⟨i, greatestSetBit_width_eq_some_iff.1 hi⟩

theorem lsbRef_eq_some_iff {a : Operand} {i : Nat} : lsbRef a = some i ↔ IsLowestSetBit a i :=
  leastSetBit_width_eq_some_iff

theorem msbRef_eq_some_iff {a : Operand} {i : Nat} : msbRef a = some i ↔ IsHighestSetBit a i :=
  greatestSetBit_width_eq_some_iff

theorem lsbRef_eq_none_iff {a : Operand} : lsbRef a = none ↔ a = 0 := leastSetBit_width_eq_none_iff

theorem msbRef_eq_none_iff {a : Operand} : msbRef a = none ↔ a = 0 := greatestSetBit_width_eq_none_iff

/-- `tz64` of a non-zero half is the index of its lowest set bit. -/
theorem isLowestSetBit_tz64 {x : Half} (hx : x ≠ 0) : IsLowestSetBit x (tz64 x) := by
  obtain ⟨i, hi⟩ := exists_isLowestSetBit hx
  rw [tz64, leastSetBit_width_eq_some_iff.2 hi]
  exact hi

/-- `63 - lz64` of a non-zero half is the index of its highest set bit. -/
theorem isHighestSetBit_lz64 {x : Half} (hx : x ≠ 0) : IsHighestSetBit x (63 - lz64 x) := by
  obtain ⟨i, hi⟩ := exists_isHighestSetBit hx
  have hlt : i < 64 := BitVec.lt_of_getLsbD hi.1
  have hback : 63 - lz64 x = i := by
    rw [lz64, greatestSetBit_width_eq_some_iff.2 hi]
    exact Nat.sub_sub_self (Nat.le_of_lt_succ hlt)
  exact hback ▸ hi

/-! ### The halves of the operand (R10) -/

theorem getLsbD_lo (a : Operand) {i : Nat} (hi : i < 64) : (lo a).getLsbD i = a.getLsbD i := by
  rw [lo, BitVec.getLsbD_extractLsb', decide_eq_true hi, Bool.true_and, Nat.zero_add]

theorem getLsbD_hi (a : Operand) (i : Nat) : (hi a).getLsbD i = a.getLsbD (64 + i) := by
  rw [hi, BitVec.getLsbD_extractLsb']
  rcases Nat.lt_or_ge i 64 with h | h
  · rw [decide_eq_true h, Bool.true_and]
  · rw [decide_eq_false (Nat.not_lt.2 h), Bool.false_and, BitVec.getLsbD_of_ge a _ (by omega)]

/-- A half that is zero has no set bit of the operand. -/
theorem getLsbD_of_lo_eq_zero {a : Operand} (h : lo a = 0) {i : Nat} (hi : i < 64) : a.getLsbD i = false := by
  rw [← getLsbD_lo a hi, h]
  exact BitVec.getLsbD_zero

theorem getLsbD_of_hi_eq_zero {a : Operand} (h : hi a = 0) {i : Nat} (hi : 64 ≤ i) : a.getLsbD i = false := by
  obtain ⟨k, rfl⟩ := Nat.exists_eq_add_of_le hi
  rw [← getLsbD_hi a k, h]
  exact BitVec.getLsbD_zero

theorem eq_zero_of_halves {a : Operand} (hlo : lo a = 0) (hhi : hi a = 0) : a = 0 := by
  refine eq_zero_iff_getLsbD.1 fun i _ => ?_
  rcases Nat.lt_or_ge i 64 with h | h
  · exact getLsbD_of_lo_eq_zero hlo h
  · exact getLsbD_of_hi_eq_zero hhi h

theorem isLowestSetBit_of_lo {a : Operand} {i : Nat} (h : IsLowestSetBit (lo a) i) : IsLowestSetBit a i := by
  obtain ⟨hset, hbelow⟩ := h
  have hlt : i < 64 := BitVec.lt_of_getLsbD hset
  exact ⟨(getLsbD_lo a hlt).symm.trans hset, fun j hj => (getLsbD_lo a (hj.trans hlt)).symm.trans (hbelow j hj)⟩

theorem isLowestSetBit_of_hi {a : Operand} {i : Nat} (hlo : lo a = 0) (h : IsLowestSetBit (hi a) i) :
    IsLowestSetBit a (64 + i) := by
  obtain ⟨hset, hbelow⟩ := h
  refine ⟨(getLsbD_hi a i).symm.trans hset, fun j hj => ?_⟩
  rcases Nat.lt_or_ge j 64 with hj64 | hj64
  · exact getLsbD_of_lo_eq_zero hlo hj64
  · obtain ⟨k, rfl⟩ := Nat.exists_eq_add_of_le hj64
    exact (getLsbD_hi a k).symm.trans (hbelow k (by omega))

theorem isHighestSetBit_of_hi {a : Operand} {i : Nat} (h : IsHighestSetBit (hi a) i) : IsHighestSetBit a (64 + i) := by
  obtain ⟨hset, habove⟩ := h
  refine ⟨(getLsbD_hi a i).symm.trans hset, fun j hj => ?_⟩
  obtain ⟨k, rfl⟩ := Nat.exists_eq_add_of_le (show 64 ≤ j by omega)
  exact (getLsbD_hi a k).symm.trans (habove k (by omega))

theorem isHighestSetBit_of_lo {a : Operand} {i : Nat} (hhi : hi a = 0) (h : IsHighestSetBit (lo a) i) :
    IsHighestSetBit a i := by
  obtain ⟨hset, habove⟩ := h
  refine ⟨(getLsbD_lo a (BitVec.lt_of_getLsbD hset)).symm.trans hset, fun j hj => ?_⟩
  rcases Nat.lt_or_ge j 64 with hj64 | hj64
  · exact (getLsbD_lo a hj64).symm.trans (habove j hj)
  · exact getLsbD_of_hi_eq_zero hhi hj64

end Sys2Proof.Machine
end

section
/-! PROOFS. The popcount strategies are the population count (R57, R58): sums over bits and fields, the SWAR stages, and the two loops. -/

namespace Sys2Proof.Machine

open Safety

/-! ### Sums over indices and bits -/

theorem sum_range_congr {f g : Nat → Nat} {n : Nat} (h : ∀ k < n, f k = g k) :
    ((List.range n).map f).sum = ((List.range n).map g).sum :=
  congrArg List.sum (List.map_congr_left fun k hk => h k (List.mem_range.1 hk))

/-- A sum whose terms are those of another, taken in pairs. -/
theorem sum_range_eq_of_pairs {f g : Nat → Nat} {n : Nat} (h : ∀ k < n, g k = f (2 * k) + f (2 * k + 1)) :
    ((List.range n).map g).sum = ((List.range (2 * n)).map f).sum := by
  induction n with
  | zero => rfl
  | succ n ih => simp [Nat.mul_add, List.range_succ, ih fun k hk => h k (by omega), h n (by omega)]

theorem bitSum_congr {v w n : Nat} {x : BitVec v} {y : BitVec w} (h : ∀ i < n, x.getLsbD i = y.getLsbD i) :
    bitSum n x = bitSum n y :=
  sum_range_congr fun i hi => congrArg Bool.toNat (h i hi)

/-- The bits below `m + n` are the low `m`, and the low `n` of the value shifted down by `m`. -/
theorem bitSum_add {w : Nat} (m n : Nat) (x : BitVec w) : bitSum (m + n) x = bitSum m x + bitSum n (x >>> m) := by
  simp [bitSum, List.range_add, Function.comp_def]

@[simp] theorem bitSum_zero_right (w n : Nat) : bitSum n (0 : BitVec w) = 0 := by
  simp [bitSum]

/-- The count of R12 is the number of set bits. -/
theorem bitSum_eq_bitCount {w : Nat} (x : BitVec w) : bitSum w x = bitCount x := by
  rw [bitCount, Finset.card_filter, Fin.sum_univ_eq_sum_range fun i => if x.getLsbD i = true then 1 else 0]
  exact sum_range_congr fun i _ => by cases x.getLsbD i <;> rfl

theorem bitCount_le {w : Nat} (x : BitVec w) : bitCount x ≤ w := bitSum_eq_bitCount x ▸ bitSum_le w x

/-- Every bit is set exactly when the count is the width. -/
theorem bitCount_eq_width_iff {w : Nat} (x : BitVec w) : bitCount x = w ↔ x = BitVec.allOnes w := by
  calc
    bitCount x = w ↔ bitCount x = Finset.card (Finset.univ : Finset (Fin w)) := by rw [Finset.card_univ, Fintype.card_fin]
    _ ↔ ∀ i ∈ (Finset.univ : Finset (Fin w)), x.getLsbD i = true := Finset.card_filter_eq_iff
    _ ↔ x = BitVec.allOnes w := by
      constructor
      · intro h
        refine BitVec.eq_of_getLsbD_eq fun i hi => ?_
        simp [h ⟨i, hi⟩ (Finset.mem_univ _), hi]
      · rintro rfl i -
        simp

/-- Clearing one set bit takes one from the count. -/
theorem bitCount_of_clearBit {w i : Nat} {x y : BitVec w} (hi : x.getLsbD i = true)
    (hy : ∀ j, y.getLsbD j = (x.getLsbD j && decide (j ≠ i))) : bitCount x = bitCount y + 1 := by
  have herase : (Finset.univ.filter fun j : Fin w => y.getLsbD j = true) =
      (Finset.univ.filter fun j : Fin w => x.getLsbD j = true).erase ⟨i, BitVec.lt_of_getLsbD hi⟩ := by
    ext j
    simp only [Finset.mem_filter_univ, Finset.mem_erase, hy, Bool.and_eq_true, decide_eq_true_eq, ne_eq, Fin.ext_iff,
      and_comm]
  rw [bitCount, bitCount, herase, Finset.card_erase_add_one]
  exact (Finset.mem_filter_univ (p := fun j : Fin w => x.getLsbD j = true) _).2 hi

/-! ### HARDWARE (R59) -/

/-- R84: the count of the operand is the sum of the counts of its halves. -/
theorem bitCount_halves (a : Operand) : pop64 (lo a) + pop64 (hi a) = bitCount a := by
  have hlo : bitSum 64 (lo a) = bitSum 64 a := bitSum_congr fun i => getLsbD_lo a
  have hhi : bitSum 64 (hi a) = bitSum 64 (a >>> 64) := bitSum_congr fun i _ =>
    (getLsbD_hi a i).trans (BitVec.getLsbD_ushiftRight a 64 i).symm
  rw [← bitSum_eq_bitCount, pop64, pop64, hlo, hhi]
  exact (bitSum_add 64 64 a).symm

/-! ### SWAR (R60, R61) -/

theorem fieldAt_one (k : Nat) (x : Half) : fieldAt 1 k x = (x.getLsbD k).toNat := by
  rw [fieldAt_eq, BitVec.getLsbD, Nat.toNat_testBit, Nat.one_mul, pow_one]

/-- After `n` steps of Horner's rule, byte `j` holds the sum of the bytes up to it. -/
theorem fieldAt_mul_byteOnes {x : Half} (hx : ∀ j < 8, fieldAt 8 j x ≤ 8) {n : Nat} (hn : n < 8) :
    ∀ j ≤ n, fieldAt 8 j (x * byteOnes n) = ((List.range (j + 1)).map fun k => fieldAt 8 k x).sum := by
  induction n with
  | zero =>
    rintro j hj
    rw [byteOnes, BitVec.mul_one, Nat.le_zero.1 hj]
    simp
  | succ n ih =>
    have hsmall : ∀ j < 8, fieldAt 8 j ((x * byteOnes n) <<< 8) + fieldAt 8 j x < 2 ^ 8 := by
      intro j hj
      have hbyte := hx j hj
      cases j with
      | zero =>
        rw [fieldAt_shiftLeft_zero]
        omega
      | succ j =>
        rw [fieldAt_shiftLeft_succ (by omega)]
        have := fieldAt_mul_byteOnes_le hx (n := n) (by omega) j (by omega)
        omega
    intro j hj
    rw [mul_byteOnes_succ, fieldAt_add (by omega) fun i hi => hsmall i (by omega)]
    cases j with
    | zero =>
      rw [fieldAt_shiftLeft_zero]
      simp
    | succ j =>
      rw [fieldAt_shiftLeft_succ (by omega), ih (by omega) j (by omega), List.range_succ (n := j + 1)]
      simp

/-- The last stage: the multiplication collects the eight bytes in the top one. -/
theorem toNat_swarByteSum {x : Half} (hx : ∀ j < 8, fieldAt 8 j x ≤ 8) :
    (swarByteSum x).toNat = ((List.range 8).map fun k => fieldAt 8 k x).sum := by
  have htop : (swarByteSum x).toNat = fieldAt 8 7 (x * byteOnes 7) := by
    have hlt := (x * byteOnes 7).isLt
    rw [fieldAt_eq, Nat.mod_eq_of_lt (by omega), ← Nat.shiftRight_eq_div_pow]
    rfl
  rw [htop, fieldAt_mul_byteOnes hx (by omega) 7 le_rfl]

/-- R61: each stage adds the fields of the one before in pairs, so the sum of all fields stays the count. -/
theorem swar64_eq_pop64 (x : Half) : swar64 x = pop64 x := by
  have hnibbles : ∀ j < 16, fieldAt 4 j (swarNibbles (swarPairs x)) ≤ 4 := fun j hj =>
    fieldAt_swarNibbles_swarPairs_le hj x
  calc
    swar64 x = ((List.range 8).map fun k => fieldAt 8 k (swarBytes (swarNibbles (swarPairs x)))).sum :=
      toNat_swarByteSum fun k hk => fieldAt_swarBytes_le hk hnibbles
    _ = ((List.range 16).map fun k => fieldAt 4 k (swarNibbles (swarPairs x))).sum :=
      sum_range_eq_of_pairs fun _ hk => fieldAt_swarBytes hk hnibbles
    _ = ((List.range 32).map fun k => fieldAt 2 k (swarPairs x)).sum :=
      sum_range_eq_of_pairs fun _ hk => fieldAt_swarNibbles hk (swarPairs x)
    _ = ((List.range 64).map fun k => fieldAt 1 k x).sum := sum_range_eq_of_pairs fun _ hk => fieldAt_swarPairs hk x
    _ = pop64 x := by
      rw [pop64, bitSum]
      exact sum_range_congr fun k _ => fieldAt_one k x

/-! ### TABLE4 (R62 to R64) -/

/-- R63: a build that passes its checks has the count of every pattern in its table. -/
theorem t4Lookup_eq_bitSum {b : Build} (hb : buildWellFormed b = true) (p : BitVec 4) : t4Lookup b.t4 p = bitSum 4 p := by
  have hentries := (buildWellFormed_iff_checksHold b).1 hb .t4Entries
  have hp : t4Lookup b.t4 (BitVec.ofNat 4 p.toNat) = pop64 (BitVec.ofNat 64 p.toNat) :=
    beq_iff_eq.1 (List.all_eq_true.1 hentries p.toNat (List.mem_range.2 p.isLt))
  have hpop : ∀ q : BitVec 4, pop64 (BitVec.ofNat 64 q.toNat) = bitSum 4 q := by decide
  rw [BitVec.ofNat_toNat, BitVec.setWidth_eq, hpop] at hp
  exact hp

/-- `n` iterations of the loop of R64 count the low `4 * n` bits; where it stops early the rest is zero. -/
theorem table4Loop_eq {t4 : Vector (BitVec 3) 16} (ht : ∀ p, t4Lookup t4 p = bitSum 4 p) (n : Nat) (v : Operand)
    (c : Nat) : table4Loop t4 n v c = c + bitSum (4 * n) v := by
  induction n generalizing v c with
  | zero => rfl
  | succ n ih =>
    rw [table4Loop]
    split <;> rename_i hv
    · rw [hv, bitSum_zero_right, Nat.add_zero]
    · have hnibble : bitSum 4 (v.extractLsb' 0 4) = bitSum 4 v := bitSum_congr fun i hi => by simp [hi]
      rw [ih, ht, hnibble, Nat.mul_add_one, Nat.add_comm (4 * n), bitSum_add, Nat.add_assoc]

theorem popTable4_eq_bitCount {t4 : Vector (BitVec 3) 16} (ht : ∀ p, t4Lookup t4 p = bitSum 4 p) (a : Operand) :
    popTable4 t4 a = bitCount a := by
  rw [popTable4, table4Loop_eq ht, Nat.zero_add]
  exact bitSum_eq_bitCount a

/-! ### NAIVE (R65) -/

/-- A set bit has a set bit below it unless it is the lowest. Negation inverts the bits that have one, so this is what
`v & (v - 1)` (R65) and `x & neg64(x)` (R76) turn on. -/
theorem exists_lower_setBit_iff {w i j : Nat} {x : BitVec w} (hi : IsLowestSetBit x i) (hj : x.getLsbD j = true) :
    (∃ k < j, x.getLsbD k = true) ↔ j ≠ i := by
  obtain ⟨hset, hbelow⟩ := hi
  constructor
  · rintro ⟨k, hk, hxk⟩ rfl
    simp [hbelow k hk] at hxk
  · intro hne
    refine ⟨i, lt_of_le_of_ne (Nat.le_of_not_lt fun hlt => ?_) hne.symm, hset⟩
    simp [hbelow j hlt] at hj

/-- R65: `v & (v - 1)` clears exactly the lowest set bit. -/
theorem getLsbD_clearLowest {w i : Nat} {v : BitVec w} (hi : IsLowestSetBit v i) (j : Nat) :
    (v &&& (v - 1#w)).getLsbD j = (v.getLsbD j && decide (j ≠ i)) := by
  rw [← BitVec.not_neg, BitVec.getLsbD_and, BitVec.getLsbD_not, BitVec.getLsbD_neg]
  cases hj : v.getLsbD j with
  | false => rfl
  | true => simp [BitVec.lt_of_getLsbD hj, exists_lower_setBit_iff hi hj]

/-- The loop of R65 runs once per set bit, so a bound of at least their number never cuts it short. -/
theorem naiveLoop_eq {n : Nat} {v : Operand} (hn : bitCount v ≤ n) (c : Nat) : naiveLoop n v c = c + bitCount v := by
  induction n generalizing v c with
  | zero => rw [Nat.le_zero.1 hn, naiveLoop, Nat.add_zero]
  | succ n ih =>
    rw [naiveLoop]
    split <;> rename_i hv
    · rw [hv, ← bitSum_eq_bitCount, bitSum_zero_right, Nat.add_zero]
    · obtain ⟨i, hi⟩ := exists_isLowestSetBit hv
      have hcount : bitCount v = bitCount (v &&& (v - 1)) + 1 := bitCount_of_clearBit hi.1 (getLsbD_clearLowest hi)
      rw [ih (by omega)]
      omega

theorem popNaive_eq_bitCount (a : Operand) : popNaive a = bitCount a := by
  rw [popNaive, naiveLoop_eq (bitCount_le a), Nat.zero_add]

/-! ### Every strategy is the population count (R58) -/

theorem popBy_eq_bitCount {b : Build} (hb : buildWellFormed b = true) (s : PopStrategy) (a : Operand) :
    popBy b s a = bitCount a := by
  cases s with
  | hardware => exact bitCount_halves a
  | swar =>
    rw [popBy, popSwar, swar64_eq_pop64, swar64_eq_pop64]
    exact bitCount_halves a
  | table4 => exact popTable4_eq_bitCount (t4Lookup_eq_bitSum hb) a
  | naive => exact popNaive_eq_bitCount a

end Sys2Proof.Machine
end

section
/-! PROOFS. The bit-scan strategies are the reference scans (R70): half by half for HARDWARE and DEBRUIJN, bit by bit for SOFTWARE. -/

namespace Sys2Proof.Machine

open Safety

/-! ### Scanning half by half (R71, R72, R77, R78) -/

/-- The shape of R71 and R77: the index a half's own scan gives, of the lower half first. -/
def forwardByHalves (index : Half → Nat) (a : Operand) : Option Nat :=
  if lo a ≠ 0 then some (index (lo a)) else if hi a ≠ 0 then some (64 + index (hi a)) else none

/-- The shape of R72 and R78: the index a half's own scan gives, of the upper half first. -/
def reverseByHalves (index : Half → Nat) (a : Operand) : Option Nat :=
  if hi a ≠ 0 then some (64 + index (hi a)) else if lo a ≠ 0 then some (index (lo a)) else none

theorem bsfHardware_eq_forwardByHalves (a : Operand) : bsfHardware a = forwardByHalves hwTz64 a := rfl

theorem bsfDeBruijn_eq_forwardByHalves (b : Build) (a : Operand) :
    bsfDeBruijn b a = forwardByHalves (fun x => dbIndex b (isolateLowest x)) a := rfl

theorem bsrHardware_eq_reverseByHalves (a : Operand) : bsrHardware a = reverseByHalves (fun x => 63 - hwLz64 x) a := rfl

theorem bsrDeBruijn_eq_reverseByHalves (b : Build) (a : Operand) :
    bsrDeBruijn b a = reverseByHalves (fun x => dbIndex b (isolateHighest x)) a := rfl

/-- An index that is right on every non-zero half gives the forward scan of the operand. -/
theorem forwardByHalves_eq_lsbRef {index : Half → Nat} (hindex : ∀ x ≠ 0, IsLowestSetBit x (index x)) (a : Operand) :
    forwardByHalves index a = lsbRef a := by
  unfold forwardByHalves
  split_ifs with hlo hhi
  · exact (lsbRef_eq_some_iff.2 (isLowestSetBit_of_lo (hindex _ hlo))).symm
  · exact (lsbRef_eq_some_iff.2 (isLowestSetBit_of_hi (not_not.1 hlo) (hindex _ hhi))).symm
  · exact (lsbRef_eq_none_iff.2 (eq_zero_of_halves (not_not.1 hlo) (not_not.1 hhi))).symm

/-- An index that is right on every non-zero half gives the reverse scan of the operand. -/
theorem reverseByHalves_eq_msbRef {index : Half → Nat} (hindex : ∀ x ≠ 0, IsHighestSetBit x (index x)) (a : Operand) :
    reverseByHalves index a = msbRef a := by
  unfold reverseByHalves
  split_ifs with hhi hlo
  · exact (msbRef_eq_some_iff.2 (isHighestSetBit_of_hi (hindex _ hhi))).symm
  · exact (msbRef_eq_some_iff.2 (isHighestSetBit_of_lo (not_not.1 hhi) (hindex _ hlo))).symm
  · exact (msbRef_eq_none_iff.2 (eq_zero_of_halves (not_not.1 hlo) (not_not.1 hhi))).symm

/-! ### The index of a non-zero half -/

theorem isLowestSetBit_hwTz64 {x : Half} (hx : x ≠ 0) : IsLowestSetBit x (hwTz64 x) := by
  rw [hwTz64, if_neg hx]
  exact isLowestSetBit_tz64 hx

theorem isHighestSetBit_hwLz64 {x : Half} (hx : x ≠ 0) : IsHighestSetBit x (63 - hwLz64 x) := by
  rw [hwLz64, if_neg hx]
  exact isHighestSetBit_lz64 hx

/-- R75: a build that passes its checks finds the index of every single bit. -/
theorem dbIndex_singleBit {b : Build} (hb : buildWellFormed b = true) {i : Nat} (hi : i < 64) :
    dbIndex b ((1 : Half) <<< i) = i :=
  beq_iff_eq.1 (List.all_eq_true.1 ((buildWellFormed_iff_checksHold b).1 hb .dbTableEntries) i (List.mem_range.2 hi))

/-- R76: `x & neg64(x)` is the lowest set bit alone. -/
theorem isolateLowest_eq {x : Half} {i : Nat} (hi : IsLowestSetBit x i) : isolateLowest x = (1 : Half) <<< i := by
  refine BitVec.eq_of_getLsbD_eq fun j hj => ?_
  rw [show (1 : Half) <<< i = BitVec.twoPow 64 i from (BitVec.twoPow_eq 64 i).symm, BitVec.getLsbD_twoPow,
    isolateLowest, neg64, BitVec.getLsbD_and, BitVec.getLsbD_neg]
  cases hxj : x.getLsbD j with
  | false =>
    have hne : i ≠ j := by
      rintro rfl
      exact Bool.noConfusion (hxj.symm.trans hi.1)
    simp [hne]
  | true => simp [hj, exists_lower_setBit_iff hi hxj, BitVec.lt_of_getLsbD hi.1, eq_comm (a := i)]

theorem isLowestSetBit_dbIndex {b : Build} (hb : buildWellFormed b = true) {x : Half} (hx : x ≠ 0) :
    IsLowestSetBit x (dbIndex b (isolateLowest x)) := by
  obtain ⟨i, hi⟩ := exists_isLowestSetBit hx
  rw [isolateLowest_eq hi, dbIndex_singleBit hb (BitVec.lt_of_getLsbD hi.1)]
  exact hi

theorem isHighestSetBit_dbIndex {b : Build} (hb : buildWellFormed b = true) {x : Half} (hx : x ≠ 0) :
    IsHighestSetBit x (dbIndex b (isolateHighest x)) := by
  have hi := isHighestSetBit_lz64 hx
  rw [isolateHighest, dbIndex_singleBit hb (BitVec.lt_of_getLsbD hi.1)]
  exact hi

/-! ### SOFTWARE (R79, R80) -/

theorem bsfSoftware_eq_lsbRef (a : Operand) : bsfSoftware a = lsbRef a := by
  refine Option.ext fun i => ?_
  rw [bsfSoftware, scanUp_eq_some_iff, lsbRef, leastSetBit_eq_some_iff]
  simp [IsLowestSetBit]

theorem bsrSoftware_eq_msbRef (a : Operand) : bsrSoftware a = msbRef a := scanDown_eq_greatestSetBit a 128

/-! ### Every strategy is the reference scan (R70) -/

theorem bsfBy_eq_lsbRef {b : Build} (hb : buildWellFormed b = true) (s : ScanStrategy) (a : Operand) :
    bsfBy b s a = lsbRef a := by
  cases s with
  | hardware =>
    rw [bsfBy, bsfHardware_eq_forwardByHalves]
    exact forwardByHalves_eq_lsbRef (fun _ => isLowestSetBit_hwTz64) a
  | deBruijn =>
    rw [bsfBy, bsfDeBruijn_eq_forwardByHalves]
    exact forwardByHalves_eq_lsbRef (fun _ => isLowestSetBit_dbIndex hb) a
  | software => exact bsfSoftware_eq_lsbRef a

theorem bsrBy_eq_msbRef {b : Build} (hb : buildWellFormed b = true) (s : ScanStrategy) (a : Operand) :
    bsrBy b s a = msbRef a := by
  cases s with
  | hardware =>
    rw [bsrBy, bsrHardware_eq_reverseByHalves]
    exact reverseByHalves_eq_msbRef (fun _ => isHighestSetBit_hwLz64) a
  | deBruijn =>
    rw [bsrBy, bsrDeBruijn_eq_reverseByHalves]
    exact reverseByHalves_eq_msbRef (fun _ => isHighestSetBit_dbIndex hb) a
  | software => exact bsrSoftware_eq_msbRef a

end Sys2Proof.Machine
end

section
/-! PROOFS. The result and valid ports (R41): ResultPortPerOperation. -/

namespace Sys2Proof.Machine

open Safety

/-! ### `F_P` of each operation without its strategy (R56, R68, R69) -/

theorem evalFunction_of_popcnt {b : Build} (hb : buildWellFormed b = true) {i : Inputs} (hop : i.op = opPopcnt) :
    evalFunction b i = countOutputs (bitCount i.operand) (popCode (popStrategy b.params i.operand)) := by
  rw [evalFunction, if_pos hop, popcntOutputs, popBy_eq_bitCount hb]

theorem evalFunction_of_bsf {b : Build} (hb : buildWellFormed b = true) {i : Inputs} (hop : i.op = opBsf) :
    evalFunction b i = optionOutputs (lsbRef i.operand) (scanCode (scanStrategy b.params)) := by
  have hpopcnt : i.op ≠ opPopcnt := hop ▸ by decide
  rw [evalFunction, if_neg hpopcnt, if_pos hop, bsfOutputs, bsfBy_eq_lsbRef hb]

theorem evalFunction_of_bsr {b : Build} (hb : buildWellFormed b = true) {i : Inputs} (hop : i.op = opBsr) :
    evalFunction b i = optionOutputs (msbRef i.operand) (scanCode (scanStrategy b.params)) := by
  have hpopcnt : i.op ≠ opPopcnt := hop ▸ by decide
  have hbsf : i.op ≠ opBsf := hop ▸ by decide
  rw [evalFunction, if_neg hpopcnt, if_neg hbsf, if_pos hop, bsrOutputs, bsrBy_eq_msbRef hb]

/-! ### The values on the `result` port (R13, R14, R41) -/

theorem toNat_zext8 {n : Nat} (hn : n ≤ 128) : (zext8 n).toNat = n := by
  rw [zext8, BitVec.toNat_ofNat]
  exact Nat.mod_eq_of_lt (by omega)

/-- Of the values up to 128 only 128 itself has bit 7 set. -/
theorem getLsbD_zext8_seven {n : Nat} (hn : n ≤ 128) : (zext8 n).getLsbD 7 = true ↔ n = 128 := by
  rw [BitVec.getLsbD, toNat_zext8 hn, Nat.testBit_eq_decide_div_mod_eq, decide_eq_true_eq]
  omega

/-- R41: the port of an index is `{0b0, i}`. -/
theorem zext8_eq_append {i : Nat} (hi : i < 128) : zext8 i = 0b0#1 ++ BitVec.ofNat 7 i := by
  apply BitVec.eq_of_toNat_eq
  rw [toNat_zext8 hi.le, BitVec.toNat_append]
  simp [Nat.mod_eq_of_lt hi]

/-- The ports of a scan that found an index with a property `P`. -/
theorem optionOutputs_some_ports {P : Nat → Prop} {i : Nat} (hP : P i) (hi : i < 128) (code : BitVec 3) :
    (optionOutputs (some i) code).valid = true ∧
      ∃ k : BitVec 7, P k.toNat ∧ (optionOutputs (some i) code).result = 0b0#1 ++ k := by
  have hback : (BitVec.ofNat 7 i).toNat = i := Nat.mod_eq_of_lt hi
  exact ⟨rfl, BitVec.ofNat 7 i, hback.symm ▸ hP, zext8_eq_append hi⟩

/-- The ports of POPCNT: the count, whose bit 7 is set for the all-ones operand alone. -/
theorem countOutputs_bitCount_ports (a : Operand) (code : BitVec 3) :
    let o := countOutputs (bitCount a) code
    o.valid = true ∧ o.result.toNat = bitCount a ∧ o.result.toNat ≤ 128 ∧
      (o.result.getLsbD 7 = true ↔ bitCount a = 128) ∧ (o.result.getLsbD 7 = true ↔ a = BitVec.allOnes 128) := by
  have hle := bitCount_le a
  have hresult := toNat_zext8 hle
  have hseven := getLsbD_zext8_seven hle
  exact ⟨rfl, hresult, hresult.trans_le hle, hseven, hseven.trans (bitCount_eq_width_iff a)⟩

theorem getLsbD_result_of_toNat_le {r : BitVec 8} (hr : r.toNat ≤ 127) : r.getLsbD 7 = false :=
  Nat.testBit_lt_two_pow (Nat.lt_succ_of_le hr)

end Sys2Proof.Machine

namespace Sys2Proof.Proofs

open Sys2Proof.Machine Sys2Proof.Safety

/-- Settles O9: the ports carry `F_P` of the inputs, read off clause by clause. -/
theorem resultPortPerOperation : Obligations.ResultPortPerOperation := by
  intro s hb
  obtain ⟨-, -, hscan, hreserved⟩ := evalFunction_inRange hb s.inp
  refine ⟨_, sampled_step hb, fun hop => ?_, fun ⟨hop, ha⟩ => ?_, fun ⟨hop, ha⟩ => ?_, fun ⟨hop, ha⟩ => ?_,
    fun hop => ?_, fun hop => ?_⟩
  · rw [evalFunction_of_popcnt hb hop]
    exact countOutputs_bitCount_ports _ _
  · obtain ⟨i, hi⟩ := exists_isLowestSetBit ha
    rw [evalFunction_of_bsf hb hop, lsbRef_eq_some_iff.2 hi]
    exact optionOutputs_some_ports hi (BitVec.lt_of_getLsbD hi.1) _
  · obtain ⟨i, hi⟩ := exists_isHighestSetBit ha
    rw [evalFunction_of_bsr hb hop, msbRef_eq_some_iff.2 hi]
    exact optionOutputs_some_ports hi (BitVec.lt_of_getLsbD hi.1) _
  · rcases hop with hop | hop
    · rw [evalFunction_of_bsf hb hop, lsbRef_eq_none_iff.2 ha]
      exact ⟨rfl, rfl⟩
    · rw [evalFunction_of_bsr hb hop, msbRef_eq_none_iff.2 ha]
      exact ⟨rfl, rfl⟩
  · obtain ⟨hvalid, hresult, -⟩ := hreserved hop
    exact ⟨hvalid, hresult⟩
  · obtain ⟨hle, -⟩ := hscan hop
    exact getLsbD_result_of_toNat_le hle

end Sys2Proof.Proofs
end

section
/-! PROOFS. The capability parameters: HardwareRunsOnlyWithItsPrimitive, PreferredStrategies, ArchTagIsNeverRead. -/

namespace Sys2Proof.Machine

/-! ### The native primitives of a well-formed build (R48, R49, R54) -/

theorem popPrimitive_of_wellFormed {b : Build} (hb : buildWellFormed b = true) :
    b.popPrimitive = nativePrimitive b.params.hwPopcntAvail :=
  beq_iff_eq.1 ((buildWellFormed_iff_checksHold b).1 hb .popPrimitive)

theorem tzPrimitive_of_wellFormed {b : Build} (hb : buildWellFormed b = true) :
    b.tzPrimitive = nativePrimitive b.params.hwBitscanAvail :=
  beq_iff_eq.1 ((buildWellFormed_iff_checksHold b).1 hb .tzPrimitive)

theorem lzPrimitive_of_wellFormed {b : Build} (hb : buildWellFormed b = true) :
    b.lzPrimitive = nativePrimitive b.params.hwBitscanAvail :=
  beq_iff_eq.1 ((buildWellFormed_iff_checksHold b).1 hb .lzPrimitive)

/-! ### The strategy choice (R85, R86) -/

/-- R85: each line that answers HARDWARE asks for the flag. -/
theorem hwPopcntAvail_of_popStrategy {p : Params} {a : Operand} (h : popStrategy p a = .hardware) :
    p.hwPopcntAvail = true := by
  unfold popStrategy at h
  generalize p.popcntImpl = impl at h
  cases impl with
  | hardware =>
    dsimp only at h
    split_ifs at h with hflag
    exact hflag
  | swar | table4 | naive => cases h
  | auto =>
    dsimp only at h
    split_ifs at h with hfixed hflag
    exact hflag

/-- R86: each line that answers HARDWARE asks for the flag. -/
theorem hwBitscanAvail_of_scanStrategy {p : Params} (h : scanStrategy p = .hardware) : p.hwBitscanAvail = true := by
  unfold scanStrategy at h
  generalize p.bitscanImpl = impl at h
  cases impl with
  | hardware =>
    dsimp only at h
    split_ifs at h with hflag
    exact hflag
  | deBruijn | software => cases h
  | auto =>
    dsimp only at h
    split_ifs at h with hfixed hflag
    exact hflag

/-- R85, the adaptive lines: only a build without the primitive reads the density. -/
theorem popStrategy_of_adaptive {p : Params} (himpl : p.popcntImpl = .auto) (hadaptive : p.adaptive = true)
    (a : Operand) : popStrategy p a =
      if p.hwPopcntAvail then .hardware else if density a < p.densityThreshold then .table4 else .swar := by
  simp [popStrategy, himpl, hadaptive]

/-- R86, the adaptive lines. -/
theorem scanStrategy_of_adaptive {p : Params} (himpl : p.bitscanImpl = .auto) (hadaptive : p.adaptive = true) :
    scanStrategy p = if p.hwBitscanAvail then .hardware else .deBruijn := by
  simp [scanStrategy, himpl, hadaptive]

/-! ### The architecture tag (R53) -/

/-- The state with another `ARCH_TAG` in its build. -/
def State.withArchTag (s : State) (tag : String) : State :=
  { s with build := { s.build with params := { s.build.params with archTag := tag } } }

section
variable (s : State) (tag : String)

@[simp] theorem fetch_withArchTag : fetch (s.withArchTag tag) = fetch s := rfl

/-- R108: no check reads the tag. -/
theorem checkHolds_withArchTag (c : BuildCheck) :
    checkHolds (s.withArchTag tag).build c = checkHolds s.build c := by
  cases c <;> rfl

@[simp] theorem firstFailedCheck_withArchTag :
    firstFailedCheck (s.withArchTag tag).build = firstFailedCheck s.build := by
  simp only [firstFailedCheck, checkHolds_withArchTag]

/-- An evaluation samples the same outputs when the function it drives does not read the tag. -/
theorem sampled_evaluate_withArchTag {f : Build → Outputs} (hf : f (s.withArchTag tag).build = f s.build) :
    sampled (evaluate f (s.withArchTag tag)) = sampled (evaluate f s) := by
  unfold evaluate
  rw [firstFailedCheck_withArchTag]
  cases firstFailedCheck s.build with
  | some c => rfl
  | none => exact congrArg some hf

theorem signalReserved_withArchTag : signalReserved (s.withArchTag tag) = signalReserved s := by
  unfold signalReserved
  rw [firstFailedCheck_withArchTag]

/-- R53 for each operation: neither the strategy chosen nor any strategy's function reads the tag. -/
theorem sampled_exec_withArchTag (i : Instr) : sampled (exec i (s.withArchTag tag)) = sampled (exec i s) := by
  cases i with
  | popcnt a => exact sampled_evaluate_withArchTag s tag (f := fun b => popcntOutputs b a) rfl
  | bsf a => exact sampled_evaluate_withArchTag s tag (f := fun b => bsfOutputs b a) rfl
  | bsr a => exact sampled_evaluate_withArchTag s tag (f := fun b => bsrOutputs b a) rfl

theorem sampled_step_withArchTag : sampled (step (s.withArchTag tag)) = sampled (step s) := by
  unfold step
  rw [fetch_withArchTag]
  cases decode (fetch s) with
  | ok i => exact sampled_exec_withArchTag s tag i
  | error e => exact congrArg sampled (signalReserved_withArchTag s tag)

end

end Sys2Proof.Machine

namespace Sys2Proof.Proofs

open Sys2Proof.Machine

/-- Settles O28: the build checks tie each primitive to its flag, and HARDWARE is chosen only under the flag. -/
theorem hardwareRunsOnlyWithItsPrimitive : Obligations.HardwareRunsOnlyWithItsPrimitive := by
  intro b a hb
  rw [popPrimitive_of_wellFormed hb, tzPrimitive_of_wellFormed hb, lzPrimitive_of_wellFormed hb]
  have hexact : ∀ {flag : Bool}, flag = true → nativePrimitive flag = .exact := congrArg nativePrimitive
  have habsent : ∀ {flag : Bool}, flag = false → nativePrimitive flag = .absent := congrArg nativePrimitive
  refine ⟨hexact, habsent, fun h => ⟨hexact h, hexact h⟩, fun h => ⟨habsent h, habsent h⟩, fun h => ?_, fun h => ?_⟩
  · have hflag := hwPopcntAvail_of_popStrategy h
    exact ⟨hflag, hexact hflag⟩
  · have hflag := hwBitscanAvail_of_scanStrategy h
    exact ⟨hflag, hexact hflag, hexact hflag⟩

/-- Settles O29: the adaptive lines of R85 and R86 are the preferred strategies once the density is not asked for. -/
theorem preferredStrategies : Obligations.PreferredStrategies := by
  refine fun p => ⟨rfl, rfl, scanStrategy_of_adaptive, fun himpl hadaptive a hchoice => ?_⟩
  rw [popStrategy_of_adaptive himpl hadaptive, preferredPop]
  rcases hchoice with hflag | hdense
  · rw [if_pos hflag, if_pos hflag]
  · rw [if_neg hdense.not_gt]

/-- Settles O31: neither the checks nor the outputs of an evaluation read the tag. -/
theorem archTagIsNeverRead : Obligations.ArchTagIsNeverRead := by
  intro s tag
  exact ⟨congrArg Option.isNone (firstFailedCheck_withArchTag s tag), sampled_step_withArchTag s tag,
    sampled_exec_withArchTag s tag⟩

end Sys2Proof.Proofs
end

section
/-! PROOFS. The strategies of POPCNT: CountReferenceMeaningAndRange, CountStrategiesAgree, SwarFieldsHoldExactCounts, NibbleTableInvariant, NibbleLoopEndsWithinBound, NaiveLoopRunsOncePerSetBit. -/

namespace Sys2Proof.Machine

open Safety

/-! ### Counts of particular values (R56, R57) -/

theorem popRef_eq_bitCount (a : Operand) : popRef a = bitCount a := bitSum_eq_bitCount a

theorem bitCount_zero (w : Nat) : bitCount (0 : BitVec w) = 0 := by
  rw [← bitSum_eq_bitCount, bitSum_zero_right]

@[simp] theorem bitCount_allOnes (w : Nat) : bitCount (BitVec.allOnes w) = w := (bitCount_eq_width_iff _).2 rfl

theorem bitCount_twoPow {w n : Nat} (hn : n < w) : bitCount (BitVec.twoPow w n) = 1 := by
  have hset : (BitVec.twoPow w n).getLsbD n = true := by simp [hn]
  have hclear : ∀ j, (0 : BitVec w).getLsbD j = ((BitVec.twoPow w n).getLsbD j && decide (j ≠ n)) := by
    simp [BitVec.getLsbD_twoPow, eq_comm (a := n)]
  rw [bitCount_of_clearBit hset hclear, bitCount_zero]

/-- The sum of the low `m` bits of a value whose set bits are those below `n`. -/
theorem bitSum_of_lowBits {w n : Nat} {x : BitVec w} (hx : ∀ i, x.getLsbD i = decide (i < n)) (m : Nat) :
    bitSum m x = min m n := by
  induction m with
  | zero => simp
  | succ m ih =>
    rw [bitSum_succ, ih, hx]
    by_cases hm : m < n
    · rw [decide_eq_true hm, Bool.toNat_true]
      omega
    · rw [decide_eq_false hm, Bool.toNat_false]
      omega

/-- R57: `n` low bits set, for any `n` of the range. -/
theorem exists_popRef_eq {n : Nat} (hn : n ≤ 128) : ∃ a : Operand, popRef a = n := by
  refine ⟨(BitVec.allOnes n).setWidth 128, (bitSum_of_lowBits (n := n) (fun i => ?_) 128).trans (min_eq_right hn)⟩
  rw [BitVec.getLsbD_setWidth, BitVec.getLsbD_allOnes, ← Bool.decide_and]
  exact decide_eq_decide.2 (and_iff_right_of_imp fun hi => hi.trans_le hn)

/-! ### The table of TABLE4 (R62, R63) -/

theorem t4Lookup_eq_bitCount {b : Build} (hb : buildWellFormed b = true) (p : BitVec 4) :
    t4Lookup b.t4 p = bitCount p :=
  (t4Lookup_eq_bitSum hb p).trans (bitSum_eq_bitCount p)

/-- The table of R62 is that of the default build, which passes its checks. -/
theorem t4Lookup_t4Rule_eq_bitSum (p : BitVec 4) : t4Lookup t4Rule p = bitSum 4 p :=
  t4Lookup_eq_bitSum buildWellFormed_defaultBuild p

/-! ### Builds that fail a check (R108) -/

theorem exists_failedCheck {b : Build} (hb : buildWellFormed b = false) : ∃ c, firstFailedCheck b = some c :=
  Option.isSome_iff_exists.1 (Option.isNone_eq_false_iff.1 hb)

theorem exec_of_failedCheck {s : State} {c : BuildCheck} (hc : firstFailedCheck s.build = some c) (i : Instr) :
    exec i s = .refused (.illFormedBuild c) := by
  obtain ⟨f, hf⟩ := exists_exec_eq_evaluate i
  rw [hf, evaluate_of_failedCheck hc]

theorem step_of_failedCheck {s : State} {c : BuildCheck} (hc : firstFailedCheck s.build = some c) :
    step s = .refused (.illFormedBuild c) := by
  rw [step_eq]
  split
  · exact signalReserved_of_failedCheck hc
  · exact evaluate_of_failedCheck hc

/-! ### The loop of TABLE4 (R64) -/

theorem table4Loop_zero (t4 : Vector (BitVec 3) 16) (n c : Nat) : table4Loop t4 n 0 c = c := by
  cases n <;> simp [table4Loop]

theorem table4Iterations_zero (n : Nat) : table4Iterations n 0 = 0 := by
  cases n <;> simp [table4Iterations]

/-- Once `m` iterations have shifted every set bit out, a larger bound changes nothing. -/
theorem table4Loop_of_le {m n : Nat} {v : Operand} (t4 : Vector (BitVec 3) 16) (hv : v >>> (4 * m) = 0) (hmn : m ≤ n)
    (c : Nat) : table4Loop t4 n v c = table4Loop t4 m v c := by
  induction m generalizing n v c with
  | zero =>
    obtain rfl : v = 0 := hv
    rw [table4Loop_zero, table4Loop_zero]
  | succ m ih =>
    obtain ⟨n, rfl⟩ := Nat.exists_eq_add_of_le' (Nat.one_le_of_lt hmn)
    have hrest : v >>> 4 >>> (4 * m) = 0 := by rwa [← BitVec.shiftRight_add, Nat.add_comm, ← Nat.mul_add_one]
    rw [table4Loop, table4Loop, ih hrest (Nat.le_of_succ_le_succ hmn)]

/-- Each iteration takes four bits off, so the highest set bit tells how many there are. -/
theorem table4Iterations_eq {n j : Nat} {v : Operand} (hj : IsHighestSetBit v j) (hn : j / 4 < n) :
    table4Iterations n v = j / 4 + 1 := by
  induction n generalizing v j with
  | zero => omega
  | succ n ih =>
    obtain ⟨hset, habove⟩ := hj
    have hv : v ≠ 0 := by
      rintro rfl
      exact Bool.noConfusion (BitVec.getLsbD_zero.symm.trans hset)
    rw [table4Iterations, if_neg hv]
    rcases Nat.lt_or_ge j 4 with hlast | hmore
    · have hnone : v >>> 4 = 0 := eq_zero_iff_getLsbD.1 fun i _ =>
        (BitVec.getLsbD_ushiftRight v 4 i).trans (habove (4 + i) (by omega))
      rw [hnone, table4Iterations_zero, Nat.div_eq_of_lt hlast]
    · obtain ⟨k, rfl⟩ := Nat.exists_eq_add_of_le hmore
      have hnext : IsHighestSetBit (v >>> 4) k :=
        ⟨(BitVec.getLsbD_ushiftRight v 4 k).trans hset, fun i hi =>
          (BitVec.getLsbD_ushiftRight v 4 i).trans (habove (4 + i) (by omega))⟩
      rw [ih hnext (by omega)]
      omega

/-- R64: 32 iterations are enough for every operand, so no larger bound runs more. -/
theorem table4Iterations_of_le {n : Nat} (hn : 32 ≤ n) (a : Operand) :
    table4Iterations n a = table4Iterations 32 a ∧ table4Iterations n a ≤ 32 := by
  by_cases ha : a = 0
  · rw [ha, table4Iterations_zero, table4Iterations_zero]
    exact ⟨rfl, Nat.zero_le 32⟩
  · obtain ⟨j, hj⟩ := exists_isHighestSetBit ha
    have hlt : j < 128 := BitVec.lt_of_getLsbD hj.1
    rw [table4Iterations_eq hj (show j / 4 < n by omega), table4Iterations_eq hj (show j / 4 < 32 by omega)]
    omega

theorem isHighestSetBit_twoPow {w n : Nat} (hn : n < w) : IsHighestSetBit (BitVec.twoPow w n) n :=
  ⟨by simp [hn], fun j hj => by simp [BitVec.getLsbD_twoPow, hj.ne]⟩

theorem isHighestSetBit_allOnes (w : Nat) : IsHighestSetBit (BitVec.allOnes (w + 1)) w :=
  ⟨by simp, fun j hj => by simp [hj]⟩

/-! ### The loop of NAIVE (R65) -/

/-- The loop adds one to the count in each iteration. -/
theorem naiveLoop_eq_add_iterations (n : Nat) (v : Operand) (c : Nat) :
    naiveLoop n v c = c + naiveIterations n v := by
  induction n generalizing v c with
  | zero => rfl
  | succ n ih =>
    rw [naiveLoop, naiveIterations]
    split
    · rfl
    · rw [ih]
      omega

theorem naiveIterations_eq {n : Nat} {a : Operand} (hn : bitCount a ≤ n) : naiveIterations n a = bitCount a :=
  Nat.add_left_cancel ((naiveLoop_eq_add_iterations n a 0).symm.trans (naiveLoop_eq hn 0))

end Sys2Proof.Machine

namespace Sys2Proof.Proofs

open Sys2Proof.Machine Sys2Proof.Safety

/-- Settles O14: each strategy is the population count, which is at most 128 and so fits the port. -/
theorem countReferenceMeaningAndRange : Obligations.CountReferenceMeaningAndRange := by
  refine ⟨fun a => ?_, fun n => exists_popRef_eq, fun b s hb => ?_⟩
  · rw [bitCount_halves, popRef_eq_bitCount]
    exact ⟨rfl, rfl, bitCount_le a⟩
  · simp only [popBy_eq_bitCount hb]
    exact ⟨bitCount_zero 128, bitCount_allOnes 128, fun a =>
      ⟨(popRef_eq_bitCount a).symm, toNat_zext8 (bitCount_le a)⟩⟩

/-- Settles O15. -/
theorem countStrategiesAgree : Obligations.CountStrategiesAgree := by
  intro b a hb
  exact ⟨popBy_eq_bitCount hb .hardware a, popBy_eq_bitCount hb .swar a, popBy_eq_bitCount hb .table4 a,
    popBy_eq_bitCount hb .naive a⟩

/-- Settles O16, stage by stage. -/
theorem swarFieldsHoldExactCounts : Obligations.SwarFieldsHoldExactCounts := by
  intro x
  have hnibbles : ∀ k < 16, fieldAt 4 k (swarNibbles (swarPairs x)) ≤ 4 := fun k hk =>
    fieldAt_swarNibbles_swarPairs_le hk x
  have hbytes : ∀ k < 8, fieldAt 8 k (swarBytes (swarNibbles (swarPairs x))) ≤ 8 := fun k hk =>
    fieldAt_swarBytes_le hk hnibbles
  refine ⟨fun k hk => ⟨?_, fieldAt_swarPairs_le hk x⟩, fun k hk => ⟨fieldAt_swarNibbles hk _, hnibbles k hk⟩,
    fun k hk => ⟨fieldAt_swarBytes hk hnibbles, hbytes k hk⟩, toNat_swarByteSum hbytes, toNat_swarByteSum_le hbytes,
    swar64_eq_pop64 x⟩
  rw [fieldAt_swarPairs hk, fieldAt_one, fieldAt_one]

/-- Settles O17: a wrong entry contradicts well-formedness, and the first failed check names the refusal. -/
theorem nibbleTableInvariant : Obligations.NibbleTableInvariant := by
  refine ⟨t4Lookup_eq_bitCount buildWellFormed_defaultBuild, fun b p hb => t4Lookup_eq_bitCount hb p,
    fun s p hwrong => ?_⟩
  have hb : buildWellFormed s.build = false :=
    Bool.eq_false_iff.2 fun hb => hwrong (t4Lookup_eq_bitCount hb p)
  obtain ⟨c, hc⟩ := exists_failedCheck hb
  exact ⟨hb, c, step_of_failedCheck hc, exec_of_failedCheck hc⟩

/-- Settles O18: 32 shifts by four empty the operand, and the corner cases are read off its highest set bit. -/
theorem nibbleLoopEndsWithinBound : Obligations.NibbleLoopEndsWithinBound := by
  have hcount := popTable4_eq_bitCount t4Lookup_t4Rule_eq_bitSum
  refine ⟨fun t4 n a hn => ⟨table4Loop_of_le t4 ?_ hn 0, table4Iterations_of_le hn a⟩, hcount,
    table4Iterations_zero 32, ?_, ?_, ?_, ?_, ?_⟩
  · exact BitVec.ushiftRight_eq_zero le_rfl
  · exact table4Iterations_eq (isHighestSetBit_twoPow (w := 128) (n := 0) (by omega)) (by omega)
  · exact table4Iterations_eq (isHighestSetBit_allOnes 127) (by omega)
  · exact (hcount _).trans (bitCount_allOnes 128)
  · exact table4Iterations_eq (isHighestSetBit_twoPow (w := 128) (n := 127) (by omega)) (by omega)
  · exact (hcount _).trans (bitCount_twoPow (by omega))

/-- Settles O19: the iterations are the set bits, one cleared in each. -/
theorem naiveLoopRunsOncePerSetBit : Obligations.NaiveLoopRunsOncePerSetBit := by
  refine ⟨fun v i hi => getLsbD_clearLowest hi, fun n a hn => ?_⟩
  have hle := bitCount_le a
  have hiterations := naiveIterations_eq (hle.trans hn)
  have hpop := popNaive_eq_bitCount a
  have hloop : naiveLoop n a 0 = popNaive a := by rw [naiveLoop_eq (hle.trans hn), Nat.zero_add, hpop]
  exact ⟨hiterations, hiterations.trans_le hle, hloop, hpop⟩

end Sys2Proof.Proofs
end

section
/-! PROOFS. POPCNT, and the three operations on one operand: PopcntDrivesSetBitCount, ScansAndCountAgree, ClearingFoundBitTakesOneFromCount. -/

namespace Sys2Proof.Machine

open Safety

/-! ### What each operation drives in a well-formed build (R56, R68, R69) -/

section
variable {s : State} {a : Operand} {i : Nat}

theorem exec_popcnt_of_wellFormed (hb : buildWellFormed s.build = true) (a : Operand) :
    exec (.popcnt a) s =
      .next (driveOutputs (countOutputs (bitCount a) (popCode (popStrategy s.build.params a))) s) := by
  rw [exec_popcnt, evaluate_of_wellFormed hb, popcntOutputs, popBy_eq_bitCount hb]

theorem exec_bsf_of_isLowestSetBit (hb : buildWellFormed s.build = true) (hi : IsLowestSetBit a i) :
    exec (.bsf a) s = .next (driveOutputs (optionOutputs (some i) (scanCode (scanStrategy s.build.params))) s) := by
  rw [exec_bsf, evaluate_of_wellFormed hb, bsfOutputs, bsfBy_eq_lsbRef hb, lsbRef_eq_some_iff.2 hi]

theorem exec_bsr_of_isHighestSetBit (hb : buildWellFormed s.build = true) (hi : IsHighestSetBit a i) :
    exec (.bsr a) s = .next (driveOutputs (optionOutputs (some i) (scanCode (scanStrategy s.build.params))) s) := by
  rw [exec_bsr, evaluate_of_wellFormed hb, bsrOutputs, bsrBy_eq_msbRef hb, msbRef_eq_some_iff.2 hi]

end

/-- The port carries a count without loss. -/
theorem toNat_countOutputs_bitCount (a : Operand) (code : BitVec 3) :
    (countOutputs (bitCount a) code).result.toNat = bitCount a := toNat_zext8 (bitCount_le a)

/-- The port carries an index without loss. -/
theorem toNat_optionOutputs_some {i : Nat} (hi : i < 128) (code : BitVec 3) :
    (optionOutputs (some i) code).result.toNat = i := toNat_zext8 hi.le

/-! ### The set bits of a value between its lowest and its highest -/

section
variable {w i j : Nat} {x : BitVec w}

theorem isLowestSetBit_le_isHighestSetBit (hi : IsLowestSetBit x i) (hj : IsHighestSetBit x j) : i ≤ j := by
  by_contra hlt
  exact Bool.noConfusion ((hj.2 i (Nat.lt_of_not_le hlt)).symm.trans hi.1)

/-- Every set bit lies between the lowest and the highest, so there are no more of them than places there. -/
theorem bitCount_le_span (hi : IsLowestSetBit x i) (hj : IsHighestSetBit x j) : bitCount x ≤ j - i + 1 := by
  have hspan : ∀ k : Fin w, x.getLsbD k = true → (k : Nat) ∈ Finset.Icc i j := by
    intro k hk
    refine Finset.mem_Icc.2 ⟨Nat.le_of_not_lt fun hlt => ?_, Nat.le_of_not_lt fun hlt => ?_⟩
    · exact Bool.noConfusion ((hi.2 k hlt).symm.trans hk)
    · exact Bool.noConfusion ((hj.2 k hlt).symm.trans hk)
  calc
    bitCount x ≤ (Finset.Icc i j).card :=
      Finset.card_le_card_of_injOn Fin.val (fun k hk => hspan k (Finset.mem_filter.1 hk).2) Fin.val_injective.injOn
    _ = j - i + 1 := by
      have := isLowestSetBit_le_isHighestSetBit hi hj
      rw [Nat.card_Icc]
      omega

/-- Clearing the bit `i` under a mask, as R82 does, takes one from the count. -/
theorem bitCount_and_not_twoPow (hi : x.getLsbD i = true) :
    bitCount (x &&& ~~~(BitVec.twoPow w i)) + 1 = bitCount x := by
  refine (bitCount_of_clearBit hi fun j => ?_).symm
  rw [BitVec.getLsbD_and, BitVec.getLsbD_not, BitVec.getLsbD_twoPow]
  cases hj : x.getLsbD j with
  | false => rfl
  | true => simp [BitVec.lt_of_getLsbD hj, BitVec.lt_of_getLsbD hi, eq_comm (a := i)]

/-- The lowest set bit is the highest exactly when it is the only one. -/
theorem isLowestSetBit_eq_isHighestSetBit_iff (hi : IsLowestSetBit x i) (hj : IsHighestSetBit x j) :
    i = j ↔ bitCount x = 1 := by
  constructor
  · rintro rfl
    have := bitCount_le_span hi hj
    have := bitCount_and_not_twoPow hi.1
    omega
  · intro hone
    have hsame := Finset.card_le_one.1 hone.le ⟨i, BitVec.lt_of_getLsbD hi.1⟩
      (Finset.mem_filter.2 ⟨Finset.mem_univ _, hi.1⟩) ⟨j, BitVec.lt_of_getLsbD hj.1⟩
      (Finset.mem_filter.2 ⟨Finset.mem_univ _, hj.1⟩)
    exact Fin.mk.inj hsame

theorem eq_of_getLsbD_twoPow {n : Nat} (hi : (BitVec.twoPow w n).getLsbD i = true) : i = n := by
  rw [BitVec.getLsbD_twoPow, Bool.and_eq_true, decide_eq_true_eq, decide_eq_true_eq] at hi
  exact hi.2.symm

end

end Sys2Proof.Machine

namespace Sys2Proof.Proofs

open Sys2Proof.Machine Sys2Proof.Safety

/-- Settles O5: whichever strategy is chosen, it answers the number of set bits. -/
theorem popcntDrivesSetBitCount : Obligations.PopcntDrivesSetBitCount :=
  fun _ a hb => ⟨decode_requestWord_popcnt a, exec_popcnt_of_wellFormed hb a⟩

/-- Settles O11: the ports carry the lowest set bit, the highest and the count, which bound one another. -/
theorem scansAndCountAgree : Obligations.ScansAndCountAgree := by
  intro s a hb ha
  obtain ⟨i, hi⟩ := exists_isLowestSetBit ha
  obtain ⟨j, hj⟩ := exists_isHighestSetBit ha
  refine ⟨_, _, _, exec_popcnt_of_wellFormed hb a, exec_bsf_of_isLowestSetBit hb hi,
    exec_bsr_of_isHighestSetBit hb hj, ?_⟩
  simp only [← BitVec.toNat_inj (n := 8), toNat_countOutputs_bitCount,
    toNat_optionOutputs_some (BitVec.lt_of_getLsbD hi.1), toNat_optionOutputs_some (BitVec.lt_of_getLsbD hj.1)]
  refine ⟨isLowestSetBit_le_isHighestSetBit hi hj, isLowestSetBit_eq_isHighestSetBit_iff hi hj,
    bitCount_le_span hi hj, fun n hn hsingle => ?_⟩
  subst hsingle
  exact ⟨eq_of_getLsbD_twoPow hi.1, eq_of_getLsbD_twoPow hj.1, bitCount_twoPow hn⟩

/-- Settles O12: the bit each scan finds is set, so clearing it takes one from the count. -/
theorem clearingFoundBitTakesOneFromCount : Obligations.ClearingFoundBitTakesOneFromCount := by
  intro s a hb ha
  obtain ⟨i, hi⟩ := exists_isLowestSetBit ha
  obtain ⟨j, hj⟩ := exists_isHighestSetBit ha
  refine ⟨_, _, _, _, _, exec_popcnt_of_wellFormed hb a, exec_bsf_of_isLowestSetBit hb hi,
    exec_bsr_of_isHighestSetBit hb hj, exec_popcnt_of_wellFormed hb _, exec_popcnt_of_wellFormed hb _, ?_⟩
  simp only [toNat_countOutputs_bitCount, toNat_optionOutputs_some (BitVec.lt_of_getLsbD hi.1),
    toNat_optionOutputs_some (BitVec.lt_of_getLsbD hj.1)]
  exact ⟨bitCount_and_not_twoPow hi.1, bitCount_and_not_twoPow hj.1⟩

end Sys2Proof.Proofs
end

section
/-! PROOFS. The De Bruijn table, the two isolations, and BSF and BSR: DeBruijnTableIsTheConstants, DeBruijnIndexFindsSingleBit, LowestBitIsolation, HighestBitIsolation, ScanStrategiesAgree, BsfDrivesLowestSetBit, BsrDrivesHighestSetBit, ScansPickTheRightHalf. -/

namespace Sys2Proof.Machine

open Safety

/-! ### The table of a well-formed build (R73 to R75) -/

theorem distinctIndices_of_wellFormed {b : Build} (hb : buildWellFormed b = true) :
    DistinctIndices b.params.deBruijnConst :=
  checkHolds_deBruijnConstant_iff.1 ((buildWellFormed_iff_checksHold b).1 hb .deBruijnConstant)

/-- R73: 64 distinct indices of 6 bits leave out none of the 64 values. -/
theorem exists_dbBitSlot_eq {c : Half} (hc : DistinctIndices c) (k : BitVec 6) :
    ∃ i : BitVec 6, dbBitSlot c i.toNat = k := by
  have hinj : Function.Injective fun i : BitVec 6 => dbBitSlot c i.toNat := fun i j hij =>
    BitVec.eq_of_toNat_eq (hc _ _ i.isLt j.isLt hij)
  exact Finite.surjective_of_injective hinj k

/-- R75 read back on the table: the entry at `k_i` is `i`. -/
theorem dbTable_dbBitSlot {b : Build} (hb : buildWellFormed b = true) (i : BitVec 6) :
    b.dbTable[(dbBitSlot b.params.deBruijnConst i.toNat).toNat]'(BitVec.isLt _) = i :=
  BitVec.eq_of_toNat_eq (dbIndex_singleBit hb i.isLt)

/-- R74: the checks leave one table for a constant, since every entry is the entry of some `k_i`. -/
theorem dbTable_eq_dbTableOf {b : Build} (hb : buildWellFormed b = true) :
    b.dbTable = dbTableOf b.params.deBruijnConst := by
  have hc := distinctIndices_of_wellFormed hb
  refine Vector.ext fun k hk => ?_
  obtain ⟨i, hi⟩ := exists_dbBitSlot_eq hc (BitVec.ofFin ⟨k, hk⟩)
  obtain rfl : (dbBitSlot b.params.deBruijnConst i.toNat).toNat = k := congrArg BitVec.toNat hi
  calc
    _ = i := dbTable_dbBitSlot hb i
    _ = BitVec.ofNat 6 i.toNat := by simp
    _ = _ := (dbTableOf_dbBitSlot hc i.isLt).symm

/-- R8, R75: the shift by 58 leaves 6 bits, so taking the low 6 of them loses nothing. -/
theorem toNat_dbSlot (c m : Half) : (dbSlot c m).toNat = ((m * c) >>> 58).toNat := by
  have hlt : ((m * c) >>> 58).toNat < 2 ^ 6 := by
    have := (m * c).isLt
    rw [BitVec.toNat_ushiftRight, Nat.shiftRight_eq_div_pow]
    omega
  rw [dbSlot, BitVec.toNat_setWidth, Nat.mod_eq_of_lt hlt]

/-- R75: `DB_INDEX(m)` as a lookup at the shifted product itself. -/
theorem dbTable_getElem?_eq_dbIndex (b : Build) (m : Half) :
    b.dbTable[((m * b.params.deBruijnConst) >>> 58).toNat]? = some (BitVec.ofNat 6 (dbIndex b m)) := by
  have hslot : (dbSlot b.params.deBruijnConst m).toNat < 64 := BitVec.isLt _
  rw [← toNat_dbSlot, Vector.getElem?_eq_getElem hslot, dbIndex, BitVec.ofNat_toNat, BitVec.setWidth_eq]

theorem dbIndex_twoPow {b : Build} (hb : buildWellFormed b = true) {i : Nat} (hi : i < 64) :
    dbIndex b (BitVec.twoPow 64 i) = i := by
  rw [BitVec.twoPow_eq]
  exact dbIndex_singleBit hb hi

/-! ### The isolated bit of a half (R76, R78) -/

/-- `isolateLowest_eq` at the index R76 names. -/
theorem isolateLowest_eq_twoPow {x : Half} (hx : x ≠ 0) : isolateLowest x = BitVec.twoPow 64 (tz64 x) :=
  (isolateLowest_eq (isLowestSetBit_tz64 hx)).trans (BitVec.twoPow_eq 64 _).symm

theorem isolateHighest_eq_twoPow (x : Half) : isolateHighest x = BitVec.twoPow 64 (63 - lz64 x) :=
  (BitVec.twoPow_eq 64 _).symm

/-- A non-zero half has a set bit, and `lz64` is its distance from bit 63. -/
theorem lz64_lt_of_ne_zero {x : Half} (hx : x ≠ 0) : lz64 x < 64 := by
  obtain ⟨i, hi⟩ := exists_isHighestSetBit hx
  rw [lz64, greatestSetBit_width_eq_some_iff.2 hi]
  exact Nat.lt_succ_of_le (Nat.sub_le 63 i)

/-! ### The reference scans by halves (R10, R68, R69) -/

section
variable {a : Operand}

theorem lsbRef_of_lo (hlo : lo a ≠ 0) : lsbRef a = some (tz64 (lo a)) :=
  lsbRef_eq_some_iff.2 (isLowestSetBit_of_lo (isLowestSetBit_tz64 hlo))

theorem lsbRef_of_hi (hlo : lo a = 0) (hhi : hi a ≠ 0) : lsbRef a = some (64 + tz64 (hi a)) :=
  lsbRef_eq_some_iff.2 (isLowestSetBit_of_hi hlo (isLowestSetBit_tz64 hhi))

theorem msbRef_of_hi (hhi : hi a ≠ 0) : msbRef a = some (64 + (63 - lz64 (hi a))) :=
  msbRef_eq_some_iff.2 (isHighestSetBit_of_hi (isHighestSetBit_lz64 hhi))

theorem msbRef_of_lo (hhi : hi a = 0) (hlo : lo a ≠ 0) : msbRef a = some (63 - lz64 (lo a)) :=
  msbRef_eq_some_iff.2 (isHighestSetBit_of_lo hhi (isHighestSetBit_lz64 hlo))

end

/-! ### What BSF and BSR drive, the zero operand too (R68, R69) -/

section
variable {s : State}

theorem exec_bsf_of_wellFormed (hb : buildWellFormed s.build = true) (a : Operand) :
    exec (.bsf a) s = .next (driveOutputs (optionOutputs (lsbRef a) (scanCode (scanStrategy s.build.params))) s) := by
  rw [exec_bsf, evaluate_of_wellFormed hb, bsfOutputs, bsfBy_eq_lsbRef hb]

theorem exec_bsr_of_wellFormed (hb : buildWellFormed s.build = true) (a : Operand) :
    exec (.bsr a) s = .next (driveOutputs (optionOutputs (msbRef a) (scanCode (scanStrategy s.build.params))) s) := by
  rw [exec_bsr, evaluate_of_wellFormed hb, bsrOutputs, bsrBy_eq_msbRef hb]

end

/-- The ports of a scan `r` of `a` that answers None exactly for zero, and otherwise the
set bit of `a` that has a property `P`. -/
theorem optionOutputs_scan_ports {a : Operand} {r : Option Nat} {P : Nat → Prop} (hnone : r = none ↔ a = 0)
    (hsome : ∀ i, r = some i ↔ P i) (hset : ∀ i, P i → a.getLsbD i = true) (code : BitVec 3) :
    let o := optionOutputs r code
    o.valid = decide (a ≠ 0) ∧ o.illegal = false ∧ o.strategy = code ∧ (a = 0 → o.result = 0x00) ∧
      (a ≠ 0 → ∃ i, i ≤ 127 ∧ P i ∧ o.result = BitVec.ofNat 8 i) := by
  cases r with
  | none =>
    have ha : a = 0 := hnone.1 rfl
    exact ⟨(decide_eq_false (not_not.2 ha)).symm, rfl, rfl, fun _ => rfl, fun hne => absurd ha hne⟩
  | some i =>
    have ha : a ≠ 0 := fun h => Option.some_ne_none i (hnone.2 h)
    have hP : P i := (hsome i).1 rfl
    exact ⟨(decide_eq_true ha).symm, rfl, rfl, fun h => absurd h ha,
      fun _ => ⟨i, Nat.le_of_lt_succ (BitVec.lt_of_getLsbD (hset i hP)), hP, rfl⟩⟩

end Sys2Proof.Machine

namespace Sys2Proof.Proofs

open Sys2Proof.Machine Sys2Proof.Safety

/-- Settles O6: whichever strategy is chosen, it answers the reference scan, which finds the lowest set bit. -/
theorem bsfDrivesLowestSetBit : Obligations.BsfDrivesLowestSetBit := by
  intro s a hb
  exact ⟨decode_requestWord_bsf a, _, exec_bsf_of_wellFormed hb a,
    optionOutputs_scan_ports lsbRef_eq_none_iff (fun _ => lsbRef_eq_some_iff) (fun _ hi => hi.1) _⟩

/-- Settles O7: whichever strategy is chosen, it answers the reference scan, which finds the highest set bit. -/
theorem bsrDrivesHighestSetBit : Obligations.BsrDrivesHighestSetBit := by
  intro s a hb
  exact ⟨decode_requestWord_bsr a, _, exec_bsr_of_wellFormed hb a,
    optionOutputs_scan_ports msbRef_eq_none_iff (fun _ => msbRef_eq_some_iff) (fun _ hi => hi.1) _⟩

/-- Settles O10: the halves decide which of the half-wide scans is reported, and whether 64 is added to it. -/
theorem scansPickTheRightHalf : Obligations.ScansPickTheRightHalf := by
  intro s a hb
  refine ⟨_, _, exec_bsf_of_wellFormed hb a, exec_bsr_of_wellFormed hb a, fun hlo => ?_, fun hhi => ?_,
    fun hlo hhi => ?_, fun hhi hlo => ?_⟩
  · have hle := tz64_le_of_ne_zero hlo
    rw [lsbRef_of_lo hlo, toNat_optionOutputs_some (by omega)]
    exact ⟨rfl, by omega⟩
  · rw [msbRef_of_hi hhi, toNat_optionOutputs_some (by omega)]
    exact ⟨rfl, by omega, by omega⟩
  · have hle := tz64_le_of_ne_zero hhi
    rw [lsbRef_of_hi hlo hhi, toNat_optionOutputs_some (by omega)]
    exact Nat.le_add_right 64 _
  · rw [msbRef_of_lo hhi hlo, toNat_optionOutputs_some (by omega)]
    exact ⟨rfl, by omega⟩

/-- Settles O20: the reference scans find set bits, which lie below the width, and every strategy is a reference scan. -/
theorem scanStrategiesAgree : Obligations.ScanStrategiesAgree := by
  refine ⟨fun a => ⟨lsbRef_eq_none_iff, fun _ => lsbRef_eq_some_iff, msbRef_eq_none_iff, fun _ => msbRef_eq_some_iff,
    fun i hi => ?_⟩, fun b s a hb => ⟨bsfBy_eq_lsbRef hb s a, bsrBy_eq_msbRef hb s a⟩⟩
  have hset : a.getLsbD i = true := hi.elim (fun h => (lsbRef_eq_some_iff.1 h).1) (fun h => (msbRef_eq_some_iff.1 h).1)
  exact Nat.le_of_lt_succ (BitVec.lt_of_getLsbD hset)

/-- Settles O21: every index is some `k_i`, whose entry the checks fix; the table of R74 is that of the default build. -/
theorem deBruijnTableIsTheConstants : Obligations.DeBruijnTableIsTheConstants := by
  refine ⟨fun b hb => ?_, (dbTable_eq_dbTableOf buildWellFormed_defaultBuild).symm⟩
  have hc := distinctIndices_of_wellFormed hb
  refine ⟨hc, dbTable_eq_dbTableOf hb, fun k => ?_⟩
  obtain ⟨i, rfl⟩ := exists_dbBitSlot_eq hc k
  exact ⟨i, rfl, dbTable_dbBitSlot hb i, fun j hj hji => hc j i.toNat hj i.isLt hji⟩

/-- Settles O22: the check of the table is the lookup of every single bit. -/
theorem deBruijnIndexFindsSingleBit : Obligations.DeBruijnIndexFindsSingleBit := by
  intro b i hb hi
  have hindex := dbIndex_twoPow hb hi
  exact ⟨hindex, by rw [dbTable_getElem?_eq_dbIndex, hindex]⟩

/-- Settles O23. -/
theorem lowestBitIsolation : Obligations.LowestBitIsolation := by
  intro x hx
  have hlowest := isLowestSetBit_tz64 hx
  have hlt : tz64 x < 64 := BitVec.lt_of_getLsbD hlowest.1
  refine ⟨hlt, hlowest, isolateLowest_eq_twoPow hx, ?_⟩
  rw [isolateLowest_eq_twoPow hx, bitCount_twoPow hlt]

/-- Settles O24: the isolated bit is a single bit, which `DB_INDEX` finds. -/
theorem highestBitIsolation : Obligations.HighestBitIsolation := by
  intro b x hb hx
  have hindex : dbIndex b (isolateHighest x) = 63 - lz64 x := by
    rw [isolateHighest_eq_twoPow, dbIndex_twoPow hb (by omega)]
  exact ⟨lz64_lt_of_ne_zero hx, isHighestSetBit_lz64 hx, isolateHighest_eq_twoPow x, hindex⟩

end Sys2Proof.Proofs
end

section
/-! PROOFS. The strategy choice on the `strategy` port, and what it leaves alone: DensityIsPopulationCount, CountStrategyChoice, ScanStrategyChoice, BuildNeverChangesTheResult, StrategyCountersSumToEvaluations. -/

namespace Sys2Proof.Machine

open Safety

/-! ### The density (R84) -/

theorem pop64_eq_bitCount (x : Half) : pop64 x = bitCount x := bitSum_eq_bitCount x

theorem density_eq_bitCount (a : Operand) : density a = bitCount a := bitCount_halves a

/-! ### The lines of the choice that ask for no density (R85, R86) -/

section
variable {p : Params}

theorem popStrategy_of_hardware (himpl : p.popcntImpl = .hardware) (a : Operand) :
    popStrategy p a = if p.hwPopcntAvail then .hardware else .swar := by
  simp [popStrategy, himpl]

theorem popStrategy_of_swar (himpl : p.popcntImpl = .swar) (a : Operand) : popStrategy p a = .swar := by
  simp [popStrategy, himpl]

theorem popStrategy_of_table4 (himpl : p.popcntImpl = .table4) (a : Operand) : popStrategy p a = .table4 := by
  simp [popStrategy, himpl]

theorem popStrategy_of_naive (himpl : p.popcntImpl = .naive) (a : Operand) : popStrategy p a = .naive := by
  simp [popStrategy, himpl]

theorem popStrategy_of_notAdaptive (himpl : p.popcntImpl = .auto) (hadaptive : p.adaptive = false) (a : Operand) :
    popStrategy p a = .table4 := by
  simp [popStrategy, himpl, hadaptive]

theorem scanStrategy_of_hardware (himpl : p.bitscanImpl = .hardware) :
    scanStrategy p = if p.hwBitscanAvail then .hardware else .deBruijn := by
  simp [scanStrategy, himpl]

theorem scanStrategy_of_deBruijn (himpl : p.bitscanImpl = .deBruijn) : scanStrategy p = .deBruijn := by
  simp [scanStrategy, himpl]

theorem scanStrategy_of_software (himpl : p.bitscanImpl = .software) : scanStrategy p = .software := by
  simp [scanStrategy, himpl]

theorem scanStrategy_of_notAdaptive (himpl : p.bitscanImpl = .auto) (hadaptive : p.adaptive = false) :
    scanStrategy p = .deBruijn := by
  simp [scanStrategy, himpl, hadaptive]

end

@[simp] theorem countOutputs_strategy (c : Nat) (code : BitVec 3) : (countOutputs c code).strategy = code := rfl

@[simp] theorem optionOutputs_strategy (r : Option Nat) (code : BitVec 3) :
    (optionOutputs r code).strategy = code := rfl

/-- BSF and BSR of a well-formed build complete, and drive the code of the one choice of R86. -/
theorem exists_exec_scan {s : State} {i : Instr} {a : Operand} (hb : buildWellFormed s.build = true)
    (hi : i = .bsf a ∨ i = .bsr a) :
    ∃ o : Outputs, exec i s = .next (driveOutputs o s) ∧ o.strategy = scanCode (scanStrategy s.build.params) := by
  rcases hi with rfl | rfl
  · exact ⟨_, exec_bsf_of_wellFormed hb a, optionOutputs_strategy _ _⟩
  · exact ⟨_, exec_bsr_of_wellFormed hb a, optionOutputs_strategy _ _⟩

/-! ### Two builds on the same inputs (R88) -/

/-- R88: the outputs of two well-formed builds on the same inputs differ in their strategy codes alone. -/
theorem evalFunction_eq_withStrategy {b c : Build} (hb : buildWellFormed b = true) (hc : buildWellFormed c = true)
    (i : Inputs) : ∃ code : BitVec 3, evalFunction c i = { evalFunction b i with strategy := code } := by
  rcases opCode_cases i.op with hop | hop | hop | hop
  · rw [evalFunction_of_popcnt hb hop, evalFunction_of_popcnt hc hop]
    exact ⟨_, rfl⟩
  · rw [evalFunction_of_bsf hb hop, evalFunction_of_bsf hc hop]
    exact ⟨_, rfl⟩
  · rw [evalFunction_of_bsr hb hop, evalFunction_of_bsr hc hop]
    exact ⟨_, rfl⟩
  · rw [evalFunction_of_reserved b hop, evalFunction_of_reserved c hop]
    exact ⟨_, rfl⟩

/-! ### The host's counters (R90) -/

/-- The codes of the popcount family (R42). -/
def popCodes : Finset (BitVec 3) := {0b000, 0b001, 0b010, 0b011}

/-- The codes of the bit-scan family (R42). -/
def scanCodes : Finset (BitVec 3) := {0b000, 0b100, 0b101}

theorem mem_popCodes_iff (code : BitVec 3) : code ∈ popCodes ↔ code.toNat ≤ 3 := by
  revert code
  decide

theorem mem_scanCodes_iff (code : BitVec 3) : code ∈ scanCodes ↔ code = 0b000 ∨ code = 0b100 ∨ code = 0b101 := by
  simp [scanCodes]

theorem strategyCounter_cons (op : OpCode) (code : BitVec 3) (e : Inputs × Outputs) (trace : List (Inputs × Outputs)) :
    strategyCounter op code (e :: trace) =
      strategyCounter op code trace + if e.1.op = op ∧ e.2.strategy = code then 1 else 0 := by
  simp [strategyCounter, List.countP_cons]

/-- Counters over a set of codes count every evaluation of an operation once, when each drove one of the codes. -/
theorem sum_strategyCounter {op : OpCode} {codes : Finset (BitVec 3)} {trace : List (Inputs × Outputs)}
    (hcodes : ∀ e ∈ trace, e.1.op = op → e.2.strategy ∈ codes) :
    ∑ code ∈ codes, strategyCounter op code trace = trace.countP fun e => e.1.op == op := by
  induction trace with
  | nil => simp [strategyCounter]
  | cons e trace ih =>
    have hrest := ih fun d hd => hcodes d (List.mem_cons_of_mem e hd)
    simp only [strategyCounter_cons, Finset.sum_add_distrib, hrest, List.countP_cons, beq_iff_eq]
    by_cases hop : e.1.op = op
    · have hmem : e.2.strategy ∈ codes := hcodes e List.mem_cons_self hop
      simp [hop, hmem]
    · simp [hop]

/-- The trace of a sequence in which each request is answered by a function of itself. -/
theorem sum_strategyCounter_zip_map {op : OpCode} {codes : Finset (BitVec 3)} {f : Inputs → Outputs}
    (hcodes : ∀ i, i.op = op → (f i).strategy ∈ codes) (reqs : List Inputs) :
    ∑ code ∈ codes, strategyCounter op code (reqs.zip (reqs.map f)) = reqs.countP fun i => i.op == op := by
  have htrace : reqs.zip (reqs.map f) = reqs.map fun i => (i, f i) := by
    simpa using List.zip_map' (f := id) (g := f) (l := reqs)
  rw [htrace, sum_strategyCounter, List.countP_map]
  · rfl
  · intro e he
    obtain ⟨i, -, rfl⟩ := List.mem_map.1 he
    exact hcodes i

end Sys2Proof.Machine

namespace Sys2Proof.Proofs

open Sys2Proof.Machine Sys2Proof.Safety

/-- Settles O25. -/
theorem densityIsPopulationCount : Obligations.DensityIsPopulationCount := by
  intro a
  have hdensity := density_eq_bitCount a
  refine ⟨?_, hdensity.trans (popRef_eq_bitCount a).symm, hdensity⟩
  rw [density, pop64_eq_bitCount, pop64_eq_bitCount]

/-- Settles O26, line by line of R85: the port carries the code of the strategy chosen. -/
theorem countStrategyChoice : Obligations.CountStrategyChoice := by
  intro s a hb
  refine ⟨_, exec_popcnt_of_wellFormed hb a, ?_⟩
  simp only [countOutputs_strategy]
  refine ⟨fun ⟨himpl, hflag⟩ => ?_, fun ⟨himpl, hflag⟩ => ?_,
    fun himpl => congrArg popCode (popStrategy_of_swar himpl a),
    fun himpl => congrArg popCode (popStrategy_of_table4 himpl a),
    fun himpl => congrArg popCode (popStrategy_of_naive himpl a),
    fun ⟨himpl, hadaptive⟩ => congrArg popCode (popStrategy_of_notAdaptive himpl hadaptive a),
    fun ⟨himpl, hadaptive, hflag⟩ => ?_, fun ⟨himpl, hadaptive, hflag, hsparse⟩ => ?_,
    fun ⟨himpl, hadaptive, hflag, hdense⟩ => ?_⟩
  · rw [popStrategy_of_hardware himpl, hflag]
    rfl
  · rw [popStrategy_of_hardware himpl, hflag]
    rfl
  · rw [popStrategy_of_adaptive himpl hadaptive, hflag]
    rfl
  · rw [popStrategy_of_adaptive himpl hadaptive, hflag, density_eq_bitCount, if_pos hsparse]
    rfl
  · rw [popStrategy_of_adaptive himpl hadaptive, hflag, density_eq_bitCount, if_neg hdense.not_gt]
    rfl

/-- Settles O27, line by line of R86: both scans drive the code of one choice, which reads no operand. -/
theorem scanStrategyChoice : Obligations.ScanStrategyChoice := by
  intro s i a hb hi
  obtain ⟨o, hexec, hcode⟩ := exists_exec_scan hb hi
  refine ⟨o, hexec, ?_⟩
  simp only [hcode]
  refine ⟨fun ⟨himpl, hflag⟩ => ?_, fun ⟨himpl, hflag⟩ => ?_,
    fun himpl => congrArg scanCode (scanStrategy_of_deBruijn himpl),
    fun himpl => congrArg scanCode (scanStrategy_of_software himpl),
    fun ⟨himpl, hadaptive⟩ => congrArg scanCode (scanStrategy_of_notAdaptive himpl hadaptive),
    fun ⟨himpl, hadaptive, hflag⟩ => ?_, fun ⟨himpl, hadaptive, hflag⟩ => ?_⟩
  · rw [scanStrategy_of_hardware himpl, hflag]
    rfl
  · rw [scanStrategy_of_hardware himpl, hflag]
    rfl
  · rw [scanStrategy_of_adaptive himpl hadaptive, hflag]
    rfl
  · rw [scanStrategy_of_adaptive himpl hadaptive, hflag]
    rfl

/-- Settles O30: the outputs of the second build are those of the first but for the strategy code. -/
theorem buildNeverChangesTheResult : Obligations.BuildNeverChangesTheResult := by
  intro s t hs ht hinp
  obtain ⟨code, hcode⟩ := evalFunction_eq_withStrategy hs ht t.inp
  refine ⟨_, _, sampled_step hs, sampled_step ht, ?_⟩
  rw [hinp, hcode]
  exact ⟨rfl, rfl, rfl⟩

/-- Settles O44: every request is answered by `F_P` of itself, whose strategy code is one of its family. -/
theorem strategyCountersSumToEvaluations : Obligations.StrategyCountersSumToEvaluations := by
  intro reqs s hb
  have hpop : ∀ i : Inputs, i.op = 0b00 → (evalFunction s.build i).strategy ∈ popCodes := by
    intro i hop
    obtain ⟨-, hcount, -, -⟩ := evalFunction_inRange hb i
    obtain ⟨-, -, hle⟩ := hcount hop
    exact (mem_popCodes_iff _).2 hle
  have hscan : ∀ i : Inputs, i.op = 0b01 ∨ i.op = 0b10 → (evalFunction s.build i).strategy ∈ scanCodes := by
    intro i hop
    obtain ⟨-, -, hscan, -⟩ := evalFunction_inRange hb i
    obtain ⟨-, -, hfamily⟩ := hscan hop
    exact (mem_scanCodes_iff _).2 hfamily
  refine ⟨_, _, observeAll_eq hb reqs, ?_, fun op hop => ?_⟩
  · simpa [popCodes, Nat.add_assoc] using sum_strategyCounter_zip_map hpop reqs
  · have hfamily : ∀ i : Inputs, i.op = op → (evalFunction s.build i).strategy ∈ scanCodes := by
      rintro i rfl
      exact hscan i hop
    simpa [scanCodes, Nat.add_assoc] using sum_strategyCounter_zip_map hfamily reqs

end Sys2Proof.Proofs
end

section
/-! PROOFS. The exceptions and the completion of an evaluation: EmptyOperandIsNoError, ReservedRequestIsSignalled, EveryEvaluationCompletes. -/

namespace Sys2Proof.Machine

open Safety

/-! ### The two answers of a step of a well-formed build (R91, R92) -/

section
variable {s : State}

/-- R92: the answer to the reserved `op`. -/
theorem step_of_reserved (hb : buildWellFormed s.build = true) (hop : s.inp.op = opReserved) :
    step s = .fault (.reservedOp reservedOutputs) := by
  rw [step_eq, if_pos hop, signalReserved_of_wellFormed hb]

/-- R91: the answer to every other `op`. -/
theorem step_of_not_reserved (hb : buildWellFormed s.build = true) (hop : s.inp.op ≠ opReserved) :
    step s = .next (driveOutputs (evalFunction s.build s.inp) s) :=
  step_eq_next_iff_evalFunction.2 ⟨hop, hb, rfl⟩

theorem step_eq_fault_iff (hb : buildWellFormed s.build = true) {r : Fault} :
    step s = .fault r ↔ s.inp.op = opReserved ∧ r = .reservedOp reservedOutputs := by
  by_cases hop : s.inp.op = opReserved
  · simp [step_of_reserved hb hop, hop, eq_comm (a := r)]
  · simp [step_of_not_reserved hb hop, hop]

theorem step_ne_refused (hb : buildWellFormed s.build = true) (r : Refusal) : step s ≠ .refused r := by
  by_cases hop : s.inp.op = opReserved
  · simp [step_of_reserved hb hop]
  · simp [step_of_not_reserved hb hop]

end

theorem legalRequest_iff {i : Inputs} : legalRequest i = true ↔ i.op ≠ opReserved := bne_iff_ne

theorem legalRequest_eq_false_iff {i : Inputs} : legalRequest i = false ↔ i.op = opReserved := bne_eq_false_iff_eq

/-! ### `F_P` where nothing is found (R93) -/

/-- R93: on the zero operand POPCNT counts nothing, which is a value, and both scans answer None. -/
theorem evalFunction_of_operand_zero {b : Build} (hb : buildWellFormed b = true) {i : Inputs} (ha : i.operand = 0)
    (hop : i.op ≠ opReserved) :
    (evalFunction b i).result = 0x00 ∧ (evalFunction b i).illegal = false ∧
      (evalFunction b i).valid = decide (i.op = opPopcnt) := by
  rcases opCode_cases i.op with h | h | h | h
  · rw [evalFunction_of_popcnt hb h, ha, bitCount_zero, h]
    exact ⟨rfl, rfl, rfl⟩
  · rw [evalFunction_of_bsf hb h, lsbRef_eq_none_iff.2 ha, h]
    exact ⟨rfl, rfl, rfl⟩
  · rw [evalFunction_of_bsr hb h, msbRef_eq_none_iff.2 ha, h]
    exact ⟨rfl, rfl, rfl⟩
  · exact absurd h hop

/-- R24: `illegal` is driven for the reserved `op` alone. -/
theorem evalFunction_illegal_eq_false_iff {b : Build} (hb : buildWellFormed b = true) (i : Inputs) :
    (evalFunction b i).illegal = false ↔ i.op ≠ opReserved := by
  obtain ⟨hillegal, -⟩ := evalFunction_inRange hb i
  rw [← Bool.not_eq_true, hillegal]

end Sys2Proof.Machine

namespace Sys2Proof.Proofs

open Sys2Proof.Machine Sys2Proof.Safety

/-- Settles O13: the step drives `F_P` of the inputs, whose ports on the zero operand are known for each operation. -/
theorem emptyOperandIsNoError : Obligations.EmptyOperandIsNoError := by
  intro s hb ha hop
  exact ⟨_, step_of_not_reserved hb hop, evalFunction_of_operand_zero hb ha hop⟩

/-- Settles O32: the reserved `op` leaves the inputs and the build, and the next evaluation samples `F_P` of these two
alone. -/
theorem reservedRequestIsSignalled : Obligations.ReservedRequestIsSignalled := by
  intro s hb
  refine ⟨fun hop => ⟨step_of_reserved hb hop, afterRequest s s.inp, ?_, rfl, rfl, fun j => ?_⟩, fun hop => ?_⟩
  · rw [observe_eq_afterRequest hb, evalFunction_of_reserved _ hop]
    rfl
  · calc
      sampled (step (drive j (afterRequest s s.inp))) = some (evalFunction s.build j) := sampled_step hb
      _ = sampled (step (drive j s)) := (sampled_step (s := drive j s) hb).symm
  · exact ⟨_, step_of_not_reserved hb hop, (evalFunction_illegal_eq_false_iff hb s.inp).2 hop⟩

/-- Settles O33: the inversion of a step by its three outcomes. -/
theorem everyEvaluationCompletes : Obligations.EveryEvaluationCompletes := by
  intro s hb
  refine ⟨?_, ?_, step_ne_refused hb⟩
  · simp [step_eq_next_iff_evalFunction, hb, legalRequest_iff]
  · simp [step_eq_fault_iff hb, legalRequest_eq_false_iff]

end Sys2Proof.Proofs
end

section
/-! PROOFS. The conditions of a well-formed build, and the refusal of every other: IllFormedBuildsAreRefused. -/

namespace Sys2Proof.Machine

open Safety

/-! ### Each check of R108 as the condition it stands for -/

section
variable {b : Build}

/-- R63: a nibble has no bit beyond its four, so its count as a half is its own. -/
theorem pop64_ofNat_nibble (p : BitVec 4) : pop64 (BitVec.ofNat 64 p.toNat) = bitCount p := by
  have hlow : ∀ q : BitVec 4, pop64 (BitVec.ofNat 64 q.toNat) = bitSum 4 q := by decide
  rw [hlow, bitSum_eq_bitCount]

theorem checkHolds_t4Entries_iff :
    checkHolds b .t4Entries = true ↔ ∀ p : BitVec 4, t4Lookup b.t4 p = bitCount p := by
  simp only [checkHolds, List.all_eq_true, List.mem_range, beq_iff_eq]
  constructor
  · intro hentries p
    have hp := hentries p.toNat p.isLt
    rwa [pop64_ofNat_nibble, BitVec.ofNat_toNat, BitVec.setWidth_eq] at hp
  · intro hcount n hn
    have hval : (BitVec.ofNat 4 n).toNat = n := (BitVec.toNat_ofNat n 4).trans (Nat.mod_eq_of_lt hn)
    rw [hcount, ← pop64_ofNat_nibble, hval]

theorem checkHolds_dbTableEntries_iff :
    checkHolds b .dbTableEntries = true ↔ ∀ i, i < 64 → dbIndex b (BitVec.twoPow 64 i) = i := by
  simp only [checkHolds, List.all_eq_true, List.mem_range, beq_iff_eq, BitVec.twoPow_eq]
  exact Iff.rfl

/-- R48, R49, R54: what the flag says of a primitive, one implication for each of its values. -/
theorem eq_nativePrimitive_iff {q : Primitive} {flag : Bool} :
    q = nativePrimitive flag ↔ (flag = true → q = .exact) ∧ (flag = false → q = .absent) := by
  cases flag with
  | false => simp
  | true => simp

theorem checkHolds_popPrimitive_iff :
    checkHolds b .popPrimitive = true ↔
      (b.params.hwPopcntAvail = true → b.popPrimitive = .exact) ∧
        (b.params.hwPopcntAvail = false → b.popPrimitive = .absent) :=
  beq_iff_eq.trans eq_nativePrimitive_iff

theorem checkHolds_tzPrimitive_iff :
    checkHolds b .tzPrimitive = true ↔
      (b.params.hwBitscanAvail = true → b.tzPrimitive = .exact) ∧
        (b.params.hwBitscanAvail = false → b.tzPrimitive = .absent) :=
  beq_iff_eq.trans eq_nativePrimitive_iff

theorem checkHolds_lzPrimitive_iff :
    checkHolds b .lzPrimitive = true ↔
      (b.params.hwBitscanAvail = true → b.lzPrimitive = .exact) ∧
        (b.params.hwBitscanAvail = false → b.lzPrimitive = .absent) :=
  beq_iff_eq.trans eq_nativePrimitive_iff

theorem checkHolds_densityThreshold_iff :
    checkHolds b .densityThreshold = true ↔ 1 ≤ b.params.densityThreshold ∧ b.params.densityThreshold ≤ 129 := by
  rw [checkHolds, Bool.and_eq_true, decide_eq_true_eq, decide_eq_true_eq]

end

/-- The checks in R108's order. -/
theorem forall_buildCheck_iff {P : BuildCheck → Prop} :
    (∀ c, P c) ↔ P .t4Entries ∧ P .deBruijnConstant ∧ P .dbTableEntries ∧ P .popPrimitive ∧ P .tzPrimitive ∧
      P .lzPrimitive ∧ P .densityThreshold := by
  constructor
  · intro h
    exact ⟨h _, h _, h _, h _, h _, h _, h _⟩
  · rintro ⟨ht4, hconst, htable, hpop, htz, hlz, hthreshold⟩ c
    cases c with
    | t4Entries => exact ht4
    | deBruijnConstant => exact hconst
    | dbTableEntries => exact htable
    | popPrimitive => exact hpop
    | tzPrimitive => exact htz
    | lzPrimitive => exact hlz
    | densityThreshold => exact hthreshold

/-- R108 item 5, which the types of the two parameters ensure (log entry 11). -/
theorem popImpl_mem_listed (i : PopImpl) : i ∈ [PopImpl.auto, .hardware, .swar, .table4, .naive] := by
  cases i <;> simp

theorem scanImpl_mem_listed (i : ScanImpl) : i ∈ [ScanImpl.auto, .hardware, .deBruijn, .software] := by
  cases i <;> simp

end Sys2Proof.Machine

namespace Sys2Proof.Proofs

open Sys2Proof.Machine Sys2Proof.Safety

/-- Settles O34: each check is its condition, and the obligation only groups those of the primitives by the value of the
flag; the first check that fails names the refusal of the step and of every instruction. -/
theorem illFormedBuildsAreRefused : Obligations.IllFormedBuildsAreRefused := by
  refine ⟨fun b => ?_, fun s hb => ?_⟩
  · rw [buildWellFormed_iff_checksHold, forall_buildCheck_iff, checkHolds_t4Entries_iff,
      checkHolds_deBruijnConstant_iff, checkHolds_dbTableEntries_iff, checkHolds_popPrimitive_iff,
      checkHolds_tzPrimitive_iff, checkHolds_lzPrimitive_iff, checkHolds_densityThreshold_iff]
    simp only [popImpl_mem_listed, scanImpl_mem_listed, imp_and, and_true]
    tauto
  · obtain ⟨c, hc⟩ := exists_failedCheck hb
    exact ⟨c, firstFailedCheck_fails hc, step_of_failedCheck hc, exec_of_failedCheck hc⟩

end Sys2Proof.Proofs
end
